-- ==== Sys2Proof/Word.lean ====
section
/-! DEFINITION. The word types of the block and its plain index types (00 R8, R10; 01 R21, R22). -/

namespace Sys2Proof

/-- One set-up register or record word: 32 bits (00 R8). -/
abbrev Word := BitVec 32

/-- One byte. -/
abbrev Byte := BitVec 8

/-- A CCLK edge of a frame: 0 to 216,959 (01 R21, 00 R14). -/
abbrev Edge := Fin 216960

/-- CCLK of one frame and of one slot (01 Table 1-1). -/
def frameLen : Nat := 216960
def slotLen : Nat := 5424

/-- A segment 0 to 15, a lane 0 to 3, a motor, a fan channel, a phase and a holding-store place. -/
abbrev SegId := Fin 16
abbrev LaneId := Fin 4
abbrev MotorId := Fin 4
abbrev FanId := Fin 4
abbrev PhaseId := Fin 4
abbrev Place := Fin 256

/-- The three masters of 03 Table 3-1. -/
inductive Master where
  | m0 | m1 | m2
  deriving DecidableEq, Repr

/-- The two PCI Express ports of 03 Table 3-1. -/
inductive Port where
  | a | b
  deriving DecidableEq, Repr

/-- The two converter rails of 11 Table 11-1. -/
inductive RailId where
  | fb | ax
  deriving DecidableEq, Repr

/-- The four operation classes of 04 Table 4-1, in the order U, C, P, B. -/
inductive Cls where
  | u | c | p | b
  deriving DecidableEq, Repr

/-- The causes of a reference loss (01 R42). -/
inductive RefCause where
  | noEdge | freq | pll
  deriving DecidableEq, Repr

end Sys2Proof
end

