-- ==== Sys2Proof/Syntax.lean ====
section
/-! DEFINITION. The commands of the block: one constructor per row of spec/opcode_table.json, in the table's order, with
the operands that the model gives each row (log entry 1): the edge of the frame at which the step falls, the unit it
names, and what the environment supplies (data arriving, levels, measured values). -/

namespace Sys2Proof

/-- What a pass's answer to an ISO/IEC 14443 frame is (07 R257, R258; 07 Table 7-4): an ATQA to a REQA, with the tracked
handle that the device finds answering or none for a new pass (06 R209; log entry 5), answers that collide after some bits
received alike, the bits that complete a UID in anticollision, a frame received good, or one received in error. -/
inductive IsoFrame where
  | atqa (known : Option (BitVec 12))
  | collision (alike : List Bool)
  | uidBits (rest : List Bool)
  | good (bytes : List Byte)
  | bad (nbytes : Nat)
  deriving DecidableEq, Repr

/-- A barrier P_STAT message as received (13 Table 13-6); `good` is whether its CRC-8 is right. -/
structure PStatMsg where
  present : Bool
  brownOut : Bool
  dc : Bool
  priEn : Bool
  overVoltage : Bool
  good : Bool
  deriving DecidableEq, Repr

/-- A downlink cell (08 R285). -/
inductive SbCell where
  | zero | one | sy | idle
  deriving DecidableEq, Repr

/-- The fields of a port's configuration space that a configuration write changes in this block (04 R663, R149). -/
inductive ConfigField where
  | completionTimeout (value : BitVec 4)
  | busMaster (on : Bool)
  | msixFunctionMask (masked : Bool)
  deriving DecidableEq, Repr

/-- The requests that 17 R575 answers with Unsupported Request. -/
inductive BadRequest where
  | io | atomic | locked | overrun
  deriving DecidableEq, Repr

/-- The head doorbells of 04 Table 4-6. -/
inductive HeadRing where
  | cq (k : Cls) | eq | tq
  deriving DecidableEq, Repr

/-- What the PROT_SCAN and CHG_UPDATE activities sample: the lines S0 to S6 and CHG_ISN in mV against ground, VBUS in
10 mV, and the outputs of both rails in mV (02 R65, 13 R463, 11 Table 11-6). -/
structure ScanData where
  lines : Vector Nat 7
  isn : Nat
  vbus : Nat
  vfb : Nat
  vax : Nat
  deriving DecidableEq, Repr

/-- One row of 09 section 9.8's sample: VCS and VRECT in mV, cell current in 0.1 uA (positive while charging), VLOAD and the
system node in mV, the charge integrated since the last sample in units of 1e-6 of 0.1 uAh (09 R332), and the converter's
input power in uW (09 R321, R323). -/
structure LavSample where
  vcs : Nat
  vrect : Nat
  icell : Int
  vload : Nat
  vsys : Nat
  charge : Int
  pin : Nat
  deriving DecidableEq, Repr

/-- A cold start (09 R311 to R313): VRECT in mV, the time in us since the field was last lost, the step of 09 Table 9-2 in
which this field is lost before step 5, its length in us, VCS and the system node in mV at step 4, and whether the fuses
read back (10 R366). -/
structure ColdRun where
  vrect : Nat
  away : Nat
  lost : Option Nat
  us : Nat
  vcs : Nat
  vsys : Nat
  fuses : Bool
  deriving DecidableEq, Repr

/-- The commands. -/
inductive Instr where
  -- frame and clock
  | tick
  | templateIndexRead
  | carrier (i : Nat) (uW : Vector Nat 16)
  | isoSlot (i : Nat)
  | refresh (i : Nat)
  | segDiag (i : Nat) (failed : BitVec 16)
  | pocketSel (i : Nat)
  | railUpdate (i : Nat) (vfb vax : Nat)
  | balUpdate (i : Nat) (mA : Vector Nat 6)
  | chgUpdate (i : Nat) (d : ScanData)
  | senseDiag (i : Nat) (sa sb : Vector Nat 7)
  | fanUpdate (i : Nat)
  | motorUpdate (i : Nat)
  | brakeHold (i : Nat)
  | chopperUpdate (i : Nat) (vbus : Nat)
  | egressStep (i : Nat)
  | protScan (i : Nat) (d : ScanData)
  | thermScan (i : Nat) (codes : Vector (BitVec 12) 8) (die : Vector Int 4)
  | dmaWindow (i : Nat)
  | cxWindow (i : Nat)
  | pCleat (i : Nat) (uW : Vector Nat 2) (answered cut : Bool)
  | referenceLoss (e : Edge) (noEdge freq : Bool)
  | clockRestoreSwitch
  | pllLock
  | pllLockTimeout (cause : RefCause)
  | fsyncPulse (e : Edge) (width : Nat)
  | fsyncPulseMissing (e : Edge)
  | holdoverExpiry
  | syncInLoss (e : Edge)
  | syncInReturn (e : Edge) (khz : Nat)
  | syncInOutOfRange (e : Edge) (khz : Nat)
  | frmCtlWrite (e : Edge) (m : Master) (be : BitVec 4) (v : Word)
  -- image
  | imageLoadStart (e : Edge) (m : Master) (v : Word)
  | imageLoadData (e : Edge) (rid : Nat) (bytes : List Byte)
  | imageLoadReadError (e : Edge) (rid : Nat)
  | proofResult
  | imageSwapActivation
  -- Halyard
  | claim (e : Edge) (m : Master) (tag : BitVec 16)
  | release (e : Edge) (m : Master)
  | offer (e : Edge) (m : Master) (target : BitVec 2)
  | withdraw (e : Edge) (m : Master)
  | accept (e : Edge) (m : Master) (tag : BitVec 16)
  | decline (e : Edge) (m : Master)
  | takeover (e : Edge) (m : Master) (tag : BitVec 16)
  | halCmdUndefined (e : Edge) (m : Master) (cmd : BitVec 8)
  | halKick (e : Edge) (m : Master)
  | owdLimitWrite (e : Edge) (m : Master) (be : BitVec 4) (v : Word)
  | ownerWatchdogExpiry
  | offerExpiry
  -- port resets
  | flrStart (e : Edge) (p : Port)
  | flrEnd (e : Edge) (p : Port)
  | perstAssert (e : Edge) (p : Port)
  | perstDeassert (e : Edge) (p : Port)
  -- rings
  | sqTailDoorbell (e : Edge) (m : Master) (cl : Cls) (be : BitVec 4) (v : Word)
  | headDoorbell (e : Edge) (m : Master) (r : HeadRing) (be : BitVec 4) (v : Word)
  | descriptorData (e : Edge) (rid : Nat) (words : List Word)
  | descriptorFetchError (e : Edge) (rid : Nat) (status : BitVec 8)
  | bufferData (e : Edge) (rid : Nat) (bytes : List Byte)
  | bufferReadError (e : Edge) (rid : Nat)
  | fillData (e : Edge) (rid : Nat) (bytes : List Byte)
  | fillReadError (e : Edge) (rid : Nat)
  | completionTimeout (e : Edge) (rid : Nat)
  | noCleatTimeout (p : Place)
  -- operations: the admitted operation at place p executes in the cleat that is entry i of the running template
  | fieldHalt (p : Place) (i : Nat)
  | unfurl (p : Place) (i : Nat)
  | furl (p : Place) (i : Nat)
  | reef (p : Place) (i : Nat)
  | reefCap (p : Place) (i : Nat)
  | segComp (p : Place) (i : Nat)
  | legDrive (p : Place) (i : Nat)
  | isoActivate (p : Place) (i : Nat)
  | apdu (p : Place) (i : Nat)
  | deselect (p : Place) (i : Nat)
  | sessLimits (p : Place) (i : Nat)
  | energyCap (p : Place) (i : Nat)
  | railSet (p : Place) (i : Nat)
  | railKill (p : Place) (i : Nat)
  | railOn (p : Place) (i : Nat)
  | railOff (p : Place) (i : Nat)
  | railRestart (p : Place) (i : Nat)
  | railOt (p : Place) (i : Nat)
  | railSync (p : Place) (i : Nat)
  | chgSet (p : Place) (i : Nat)
  | chgOn (p : Place) (i : Nat)
  | chgOff (p : Place) (i : Nat)
  | chgKill (p : Place) (i : Nat)
  | balSet (p : Place) (i : Nat)
  | laneEgress (p : Place) (i : Nat)
  | motorStop (p : Place) (i : Nat)
  | motorEnable (p : Place) (i : Nat)
  | motorDrive (p : Place) (i : Nat)
  | flapMove (p : Place) (i : Nat)
  | motorBrake (p : Place) (i : Nat)
  | motorRelease (p : Place) (i : Nat)
  | mbusOv (p : Place) (i : Nat)
  | chopperSet (p : Place) (i : Nat)
  | egressArm (p : Place) (i : Nat)
  | egressDisarm (p : Place) (i : Nat)
  | fanRow (p : Place) (i : Nat)
  | fanMode (p : Place) (i : Nat)
  | fanHyst (p : Place) (i : Nat)
  | fanTach (p : Place) (i : Nat)
  | fanWdog (p : Place) (i : Nat)
  | fanRestore (p : Place) (i : Nat)
  | thermSet (p : Place) (i : Nat)
  | cxFill (p : Place) (i : Nat)
  | cxSpill (p : Place) (i : Nat)
  | cxPin (p : Place) (i : Nat)
  | cxUnpin (p : Place) (i : Nat)
  | cxHint (p : Place) (i : Nat)
  | cxKey (p : Place) (i : Nat)
  | cxRetire (p : Place) (i : Nat)
  | spoilSet (p : Place) (i : Nat)
  | imageSwap (p : Place) (i : Nat)
  | keyFuse (p : Place) (i : Nat)
  | keyFuseReadback (hash : Vector Byte 32)
  | keyRevoke (p : Place) (i : Nat)
  | diagStart (p : Place) (i : Nat)
  | diagNoActivity (p : Place)
  | faultClear (p : Place) (i : Nat)
  | quiet (p : Place) (i : Nat)
  | resume (p : Place) (i : Nat)
  | clockRestore (p : Place) (i : Nat) (failing : Option RefCause)
  | frameResync (p : Place) (i : Nat)
  | commitPair (p : Place) (i : Nat)
  | qState (p : Place) (i : Nat)
  | qCounters (p : Place) (i : Nat)
  | qFaults (p : Place) (i : Nat)
  | qLedger (p : Place) (i : Nat)
  | qContext (p : Place) (i : Nat)
  | qImage (p : Place) (i : Nat)
  -- field protection and ISO
  | segmentShort (e : Edge) (s : SegId)
  | openLoad (e : Edge) (s : SegId)
  | bootstrapFault (e : Edge) (s : SegId) (legA legB : Bool)
  | bootstrapReady (e : Edge) (s : SegId)
  | bootstrapTimeout (e : Edge) (s : SegId)
  | isoAnswer (e : Edge) (sg : SegId) (f : IsoFrame)
  | isoAnswerTimeout (e : Edge) (sg : SegId)
  | sessionTimeout (p : Place)
  -- energy loop, controller side
  | hello (e : Edge) (h : BitVec 12) (bits : BitVec 64)
  | energyReport (e : Edge) (h : BitVec 12) (bits : BitVec 64)
  | reportTimeout (e : Edge) (h : BitVec 12)
  | beaconExhausted (e : Edge) (h : BitVec 12)
  -- energy loop, pass side
  | fragment (cells : List SbCell) (samples : Vector LavSample 2)
  | copyTimeout (copyB : Bool) (tag : BitVec 4)
  | directiveJudgeTimeout
  | assign
  | opSet
  | vtgtSet
  | ichgStage
  | vchgStage
  | pgStage
  | commit
  | policy
  | keep
  | directiveRelease
  | beacon
  | remoteModeTimeout
  -- LAV-12
  | coldStart (r : ColdRun)
  | cellSample (s : LavSample)
  | temperatureSample (t : Int)
  | trackerStep (uW : Nat)
  | trickleTimeout
  | prechargeTimeout
  | cvTermination
  | restAnchor (vcs : Nat)
  | gaugeCompare
  | gaugeSubtraction
  | chargeOverCurrent (icell : Int)
  | chargeOcRestart
  | dischargeOverCurrent (uA : Nat)
  | loadSwitchRetry
  | loadShort (vload : Nat)
  | underVoltageCut (vcs : Nat)
  | supervisionSample (edges : Nat) (vcs : Nat) (charge : Int)
  | wake (vrect us : Nat)
  | supTimeExpiry
  | nap
  | lvQgLoWrite (v : BitVec 16)
  | nvRead
  | nvWrite
  | nvmWriteComplete (verified : Bool)
  | nvApply
  | blowLimits
  | blowIssued
  | i2cRegisterWrite (addr : Byte) (v : BitVec 16)
  | txmEdge (high : Bool)
  | fieldEnvelopeChange (below : Bool)
  -- rails
  | railDelayExpiry (e : Edge) (r : RailId) (vout : Nat)
  | slewStep (k : Fin 40) (r : RailId)
  | peakLimit (e : Edge) (r : RailId) (ph : PhaseId)
  | negativeLimit (e : Edge) (r : RailId) (ph : PhaseId)
  | overCurrentLatchOff (e : Edge) (r : RailId) (ph : PhaseId)
  | hardShort (e : Edge) (r : RailId) (ph : PhaseId)
  | pulseTruncation (e : Edge) (r : RailId) (vout : Nat)
  | outputOverVoltage (e : Edge) (r : RailId) (vout : Nat)
  | inputUnderVoltage (e : Edge) (vbus : Nat)
  -- motion
  | hallEdge (e : Edge) (n : MotorId) (code : BitVec 3)
  | hallWindowClose (e : Edge) (n : MotorId)
  | startTimeout (e : Edge) (n : MotorId)
  | motionUpdateTimeout (e : Edge) (n : MotorId)
  | brakingTimeout (e : Edge) (n : MotorId)
  | motorShort (e : Edge) (n : MotorId)
  | motorBootstrapFault (e : Edge) (n : MotorId)
  | mbusOverVoltage (e : Edge) (vbus : Nat)
  | chopperComparator (e : Edge) (vbus : Nat)
  | directModePin (e : Edge) (n : MotorId) (leg : Fin 3) (en p : Bool)
  | egressLaneStart (l : LaneId)
  | egressStop
  -- mains and barrier
  | pStat (e : Edge) (msg : PStatMsg)
  | pMeas (e : Edge) (peak halfPeriod : Byte) (good : Bool)
  | sCmd (priOn good : Bool)
  | barrierLinkLoss (e : Edge)
  | secondaryDark
  | mainsLoss
  | mainsBrownOut
  | mainsPresent (dc : Bool) (peak halfPeriod : Nat)
  | mainsOverVoltage
  | primaryPowerOn
  | egressNAssert (e : Edge)
  | stackLow (e : Edge)
  -- fans and inputs
  | fanWatchdogExpiry
  | tachEdge (e : Edge) (c : FanId)
  | laneInputChange (e : Edge) (n : Fin 16) (level : Bool)
  | tooth (e : Edge)
  | toothWindowClose (e : Edge)
  | home (e : Edge)
  -- resets
  | powerOnReset
  | powerOnRelease (vioMv : Nat)
  | supplyDip
  | softwareReset (e : Edge) (m : Master) (be : BitVec 4) (v : Word)
  -- registers and ports
  | registerWrite (e : Edge) (m : Master) (a : BitVec 16) (be : BitVec 4) (v : Word)
  | rcFieldRead (e : Edge) (m : Master) (a : BitVec 16)
  | nowOfsRead (e : Edge) (m : Master)
  | spiFrame (e : Edge) (mode3 : Bool) (bytes : List Byte) (spare : Fin 8)
  | unsupportedRequest (e : Edge) (p : Port) (k : BadRequest)
  | configurationWrite (e : Edge) (p : Port) (f : ConfigField)
  | linkStateChange (e : Edge) (p : Port) (speed : BitVec 2)
  | correctableError (e : Edge) (p : Port)
  | referenceCauseOnBackup (e : Edge) (cause : RefCause)
  | inputUnderVoltageClear (e : Edge) (vbus : Nat)
  | egressNRise (e : Edge)
  | openLoopStep (e : Edge) (n : MotorId)
  | conveyorRunEdge (e : Edge) (high : Bool)
  | vloadRegulationChange (inReg : Bool)
  deriving DecidableEq, Repr

end Sys2Proof
end

