-- ==== Sys2Proof/Decode.lean ====
section
/-! DEFINITION. The command that a word spells. spec/opcode_table.json gives no row any bits (every row's fields are
empty), so no word spells a command (log entry 4). -/

namespace Sys2Proof

/-- The command spelt by a word of the table's bits: none, since no row of the table has bits (log entry 4). -/
def decodeTableWord (_nbits _w : Nat) : Option Instr := none

end Sys2Proof
end

