-- ==== Sys2Proof/Machine/Bits.lean ====
section
/-! DEFINITION. Fields of words, byte order (00 R10, R12), vector updates, saturation and the two CRCs. -/

namespace Sys2Proof.Machine

open Sys2Proof

/-- Bits hi to lo of a number. -/
def bitsOf (n hi lo : Nat) : Nat := (n >>> lo) % 2 ^ (hi + 1 - lo)

/-- Bits hi to lo of a word. -/
def fld (w : Word) (hi lo : Nat) : Nat := bitsOf w.toNat hi lo

/-- A number read as a signed one of n bits. -/
def signed (n v : Nat) : Int := if 2 * (v % 2 ^ n) < 2 ^ n then (v % 2 ^ n : Nat) else (v % 2 ^ n : Nat) - (2 ^ n : Nat)

/-- The n-bit two's complement pattern of an integer. -/
def twos (n : Nat) (i : Int) : Nat := (i % (2 ^ n : Nat)).toNat

/-- A word packed from (value, lowest bit) fields that do not overlap. -/
def pack (fs : List (Nat × Nat)) : Nat := fs.foldl (fun a f => a + f.1 <<< f.2) 0

/-- A Bool as a bit. -/
def bit (b : Bool) : Nat := if b then 1 else 0

/-- A value limited to a maximum. -/
def satTo (m v : Nat) : Nat := min m v

/-- A value limited to a range. -/
def clampI (lo hi v : Int) : Int := max lo (min hi v)

/-- Ceiling of a quotient; zero for a zero divisor. -/
def ceilDiv (a b : Nat) : Nat := if b = 0 then 0 else (a + b - 1) / b

/-- Division rounded to the nearest, halves up. -/
def roundDiv (a b : Nat) : Nat := if b = 0 then 0 else (2 * a + b) / (2 * b)

/-- The n bytes of a number, least significant first (00 R12). -/
def le : Nat → Nat → List Byte
  | 0, _ => []
  | n + 1, v => BitVec.ofNat 8 v :: le n (v / 256)

/-- The number whose bytes, least significant first, are given. -/
def leNat : List Byte → Nat
  | [] => 0
  | b :: bs => b.toNat + 256 * leNat bs

/-- The number whose bytes, most significant first, are given. -/
def beNat (bs : List Byte) : Nat := bs.foldl (fun a b => 256 * a + b.toNat) 0

/-- The number of len bytes at an offset of a byte list, little-endian; absent bytes are zero. -/
def leAt (bs : List Byte) (ofs len : Nat) : Nat := leNat ((bs.drop ofs).take len)

/-- Words from bytes, little-endian. -/
def toWords : List Byte → List Word
  | a :: b :: c :: d :: r => BitVec.ofNat 32 (leNat [a, b, c, d]) :: toWords r
  | [] => []
  | bs => [BitVec.ofNat 32 (leNat bs)]

/-- Bytes of words, little-endian. -/
def ofWords (ws : List Word) : List Byte := ws.flatMap fun w => le 4 w.toNat

/-- A list cut or filled with zero bytes to a length. -/
def padTo (n : Nat) (bs : List Byte) : List Byte := (bs ++ List.replicate (n - bs.length) 0).take n

/-- The entry of a vector changed by a function. -/
def vmod {α : Type} {n : Nat} (v : Vector α n) (i : Fin n) (f : α → α) : Vector α n := v.set i (f v[i])

/-- The entry at a numeric index changed by a function; unchanged where the index lies outside. -/
def vmodN {α : Type} {n : Nat} (v : Vector α n) (i : Nat) (f : α → α) : Vector α n :=
  if h : i < n then vmod v ⟨i, h⟩ f else v

/-- A 32-bit counter of a vector raised by an amount, saturating (05 R187). -/
def vcount {n : Nat} (v : Vector Nat n) (i : Nat) (by_ : Nat := 1) : Vector Nat n :=
  vmodN v i fun x => satTo 0xFFFFFFFF (x + by_)

/-- The bit positions set in a mask, ascending. -/
def onesOf {n : Nat} (m : BitVec n) : List Nat := (List.range n).filter fun i => m.getLsbD i

/-- How many bits of a mask are set. -/
def countOnes {n : Nat} (m : BitVec n) : Nat := (onesOf m).length

/-- The mask of one bit. -/
def oneHot (n i : Nat) : BitVec n := BitVec.ofNat n (1 <<< i)

/-- A register word with the bytes replaced whose byte enables are set (00 R8). -/
def mergeBytes (old new : Word) (be : BitVec 4) : Word :=
  let m : Word := BitVec.ofNat 32 ((onesOf be).foldl (fun a i => a + 0xFF <<< (8 * i)) 0)
  (old &&& ~~~m) ||| (new &&& m)

/-- One bit of a shift-register CRC of n bits with polynomial p. -/
def crcBit (n p c : Nat) : Nat := if c ≥ 2 ^ (n - 1) then ((2 * c) ^^^ p) % 2 ^ n else 2 * c

/-- Eight bits of a CRC. -/
def crcByte (n p c b : Nat) : Nat := (List.range 8).foldl (fun a _ => crcBit n p a) (c ^^^ (b <<< (n - 8)))

/-- CRC-16: polynomial 0x1021, initial value 0xFFFF, not reflected, no final XOR (06 R202). -/
def crc16 (bs : List Byte) : Nat := bs.foldl (fun c b => crcByte 16 0x1021 c b.toNat) 0xFFFF

/-- The bits of bytes, each byte's least significant bit first. -/
def lsbBits (bs : List Byte) : List Bool := bs.flatMap fun b => (List.range 8).map fun i => b.getLsbD i

/-- Bytes from bits, each byte's least significant bit first. -/
def lsbBytes (bs : List Bool) : List Byte :=
  (List.range (bs.length / 8)).map fun k =>
    BitVec.ofNat 8 (((bs.drop (8 * k)).take 8).foldr (fun b a => 2 * a + bit b) 0)

/-- One bit of a CRC that shifts right. -/
def crcRight (p c : Nat) (b : Bool) : Nat :=
  let x := c ^^^ bit b
  if x % 2 = 1 then (x / 2) ^^^ p else x / 2

/-- CRC_A of ISO/IEC 14443-3: x^16 + x^12 + x^5 + 1, initial value 0x6363, bits in order of transmission (log entry 112). -/
def crcA (bs : List Byte) : List Byte := le 2 ((lsbBits bs).foldl (crcRight 0x8408) 0x6363)

/-- CRC over single bits, most significant first, for strings that are no whole bytes. -/
def crcBits (n p init : Nat) (bs : List Bool) : Nat :=
  bs.foldl (fun c b => crcBit n p (c ^^^ (bit b <<< (n - 1)))) init

/-- The first answer of a list of options. -/
def firstSome {α : Type} (l : List (Option α)) : Option α := l.findSome? id

/-- Insertion of an item before the first that does not stand before it. -/
def insertBy {α : Type} (before : α → α → Bool) (x : α) : List α → List α
  | [] => [x]
  | y :: ys => if before y x then y :: insertBy before x ys else x :: y :: ys

/-- Stable ordering of a list by a Nat key. -/
def sortKey {α : Type} (k : α → Nat) (l : List α) : List α := l.foldr (fun x r => insertBy (fun a b => k a < k b) x r) []

end Sys2Proof.Machine
end

