-- ==== Sys2Proof/Machine/Crypto.lean ====
section
/-! DEFINITION. The cryptography that the spec names: SHA-256 and ECDSA over P-256 (02 R68), AES-128 and CMAC (08 R292; 06
R203). -/

namespace Sys2Proof.Machine

open Sys2Proof

/-! ## SHA-256 -/

/-- The largest r with r ^ k at most n that needs i more bits above r. -/
def rootFloor (k n : Nat) : Nat → Nat → Nat
  | 0, r => r
  | i + 1, r => rootFloor k n i (if (r + 2 ^ i) ^ k ≤ n then r + 2 ^ i else r)

/-- The first 32 bits of the fraction of the k-th root of a small number. -/
def fracRoot (k q : Nat) : Word := BitVec.ofNat 32 (rootFloor k (q * 2 ^ (32 * k)) 37 0)

/-- The primes up to 311, of which SHA-256 takes 64. -/
def shaPrimes : List Nat := (List.range 312).filter fun q => decide (2 ≤ q) && (List.range 18).all fun d => d < 2 || d == q || q % d != 0

/-- The round constants: fractions of the cube roots of the primes. -/
def shaK : List Word := shaPrimes.map (fracRoot 3)

/-- The hash state: eight words. -/
structure Sha where
  a : Word
  b : Word
  c : Word
  d : Word
  e : Word
  f : Word
  g : Word
  h : Word
  deriving DecidableEq, Repr

/-- Eight words as a state; absent ones are zero. -/
def Sha.ofList (l : List Word) : Sha :=
  ⟨l.getD 0 0, l.getD 1 0, l.getD 2 0, l.getD 3 0, l.getD 4 0, l.getD 5 0, l.getD 6 0, l.getD 7 0⟩

/-- The initial state: fractions of the square roots of the first eight primes. -/
def Sha.init : Sha := Sha.ofList (shaPrimes.map (fracRoot 2))

/-- One round with its constant and schedule word. -/
def Sha.round (s : Sha) (k w : Word) : Sha :=
  let s1 := s.e.rotateRight 6 ^^^ s.e.rotateRight 11 ^^^ s.e.rotateRight 25
  let ch := (s.e &&& s.f) ^^^ (~~~s.e &&& s.g)
  let t1 := s.h + s1 + ch + k + w
  let s0 := s.a.rotateRight 2 ^^^ s.a.rotateRight 13 ^^^ s.a.rotateRight 22
  let maj := (s.a &&& s.b) ^^^ (s.a &&& s.c) ^^^ (s.b &&& s.c)
  ⟨t1 + (s0 + maj), s.a, s.b, s.c, s.d + t1, s.e, s.f, s.g⟩

/-- The schedule extended by n words; the list holds the latest word first. -/
def shaExtend : Nat → List Word → List Word
  | 0, w => w
  | n + 1, w =>
    let w2 := w.getD 1 0
    let w15 := w.getD 14 0
    let s0 := w15.rotateRight 7 ^^^ w15.rotateRight 18 ^^^ (w15 >>> 3)
    let s1 := w2.rotateRight 17 ^^^ w2.rotateRight 19 ^^^ (w2 >>> 10)
    shaExtend n ((w.getD 15 0 + s0 + w.getD 6 0 + s1) :: w)

/-- One block of sixteen words. -/
def Sha.block (s : Sha) (ws : List Word) : Sha :=
  let t := (shaK.zip (shaExtend 48 ws.reverse).reverse).foldl (fun s kw => s.round kw.1 kw.2) s
  ⟨s.a + t.a, s.b + t.b, s.c + t.c, s.d + t.d, s.e + t.e, s.f + t.f, s.g + t.g, s.h + t.h⟩

/-- Big-endian words of a byte list. -/
def beWords : List Byte → List Word
  | a :: b :: c :: d :: r => BitVec.ofNat 32 (beNat [a, b, c, d]) :: beWords r
  | _ => []

/-- The bytes of a number, most significant first. -/
def be (n v : Nat) : List Byte := (le n v).reverse

/-- The blocks of a word list: n of them, sixteen words each. -/
def shaBlocks : Nat → List Word → Sha → Sha
  | 0, _, s => s
  | n + 1, ws, s => shaBlocks n (ws.drop 16) (s.block (ws.take 16))

/-- SHA-256 of a byte list: 32 bytes. -/
def sha256 (bs : List Byte) : List Byte :=
  let l := bs.length
  let pad := bs ++ (0x80 : Byte) :: List.replicate ((119 - l % 64) % 64) 0 ++ be 8 (8 * l)
  let s := shaBlocks (pad.length / 64) (beWords pad) Sha.init
  [s.a, s.b, s.c, s.d, s.e, s.f, s.g, s.h].flatMap fun w => be 4 w.toNat

/-! ## P-256 -/

namespace P256

def p : Nat := 2 ^ 256 - 2 ^ 224 + 2 ^ 192 + 2 ^ 96 - 1
def n : Nat := 0xffffffff00000000ffffffffffffffffbce6faada7179e84f3b9cac2fc632551
def b : Nat := 0x5ac635d8aa3a93e7b3ebbd55769886bc651d06b0cc53b0f63bce3c3e27d2604b
def gx : Nat := 0x6b17d1f2e12c4247f8bce6e563a440f277037d812deb33a0f4a13945d898c296
def gy : Nat := 0x4fe342e2fe1a7f9b8ee7eb4a7c0f9e162bce33576b315ececbb6406837bf51f5

/-- A power modulo m over the low k bits of the exponent. -/
def powMod (m x e : Nat) : Nat → Nat
  | 0 => 1
  | k + 1 =>
    let r := powMod m x e k
    let q := r * r % m
    if e.testBit (255 - k) then q * x % m else q

/-- The inverse modulo a prime. -/
def inv (m x : Nat) : Nat := powMod m (x % m) (m - 2) 256

/-- A point; none is the point at infinity. -/
abbrev Pt := Option (Nat × Nat)

/-- The curve equation y^2 = x^3 - 3x + b. -/
def onCurve (x y : Nat) : Bool := y * y % p == (x * x % p * x + (p - 3) * x + b) % p

def add : Pt → Pt → Pt
  | none, q => q
  | q, none => q
  | some (x1, y1), some (x2, y2) =>
    if x1 = x2 ∧ (y1 + y2) % p = 0 then none
    else
      let l := if x1 = x2 then (3 * x1 * x1 + (p - 3)) % p * inv p (2 * y1) % p
               else (y2 + p - y1) % p * inv p (x2 + p - x1) % p
      let x3 := (l * l + 2 * p - x1 - x2) % p
      some (x3, (l * (x1 + p - x3) + p - y1) % p)

/-- k times a point, over the low j bits of k. -/
def mul (k : Nat) (q : Pt) : Nat → Pt
  | 0 => none
  | j + 1 =>
    let r := mul k q j
    let d := add r r
    if k.testBit (255 - j) then add d q else d

/-- X and Y form a point of the curve other than the point at infinity; r and s in range; the signature verifies (02 IV-05). -/
def verify (digest x y r s : Nat) : Bool :=
  decide (x < p ∧ y < p ∧ 1 ≤ r ∧ r < n ∧ 1 ≤ s ∧ s < n) && onCurve x y &&
  (let w := inv n s
   match add (mul (digest * w % n) (some (gx, gy)) 256) (mul (r * w % n) (some (x, y)) 256) with
   | none => false
   | some (rx, _) => rx % n == r)

end P256

/-! ## AES-128 -/

/-- Multiplication by x in the AES field. -/
def aesX (a : Nat) : Nat := if a ≥ 128 then (2 * a) ^^^ 0x11B else 2 * a

/-- Product in the AES field, over the low k bits of the second factor. -/
def aesMul (a b : Nat) : Nat → Nat
  | 0 => 0
  | k + 1 => aesX (aesMul a b k) ^^^ (if b.testBit (7 - k) then a else 0)

/-- The inverse in the AES field: the 254th power; 0 for 0. -/
def aesInv (a : Nat) : Nat := (List.range 253).foldl (fun r _ => aesMul r a 8) a

/-- The AES substitution: the inverse, then the affine map. -/
def aesSub (a : Nat) : Nat :=
  let i := aesInv a
  let rot := fun k => ((i <<< k) ||| (i >>> (8 - k))) % 256
  i ^^^ rot 1 ^^^ rot 2 ^^^ rot 3 ^^^ rot 4 ^^^ 0x63

/-- The substitution table. -/
def aesTable : List Nat := (List.range 256).map aesSub

def aesS (a : Nat) : Nat := aesTable.getD a 0

/-- One round key from the one before it, with its round constant. -/
def aesNextKey (k : List Nat) (rc : Nat) : List Nat :=
  let t := [aesS (k.getD 13 0) ^^^ rc, aesS (k.getD 14 0), aesS (k.getD 15 0), aesS (k.getD 12 0)]
  let w0 := (List.range 4).map fun i => k.getD i 0 ^^^ t.getD i 0
  let w1 := (List.range 4).map fun i => k.getD (4 + i) 0 ^^^ w0.getD i 0
  let w2 := (List.range 4).map fun i => k.getD (8 + i) 0 ^^^ w1.getD i 0
  let w3 := (List.range 4).map fun i => k.getD (12 + i) 0 ^^^ w2.getD i 0
  w0 ++ w1 ++ w2 ++ w3

/-- The round constants. -/
def aesRcon : List Nat := [0x01, 0x02, 0x04, 0x08, 0x10, 0x20, 0x40, 0x80, 0x1B, 0x36]

def xorList (a b : List Nat) : List Nat := (List.range 16).map fun i => a.getD i 0 ^^^ b.getD i 0

/-- SubBytes and ShiftRows: byte i of the result, columns of four bytes. -/
def aesShift (s : List Nat) : List Nat := (List.range 16).map fun i => aesS (s.getD ((i + 4 * (i % 4)) % 16) 0)

/-- MixColumns. -/
def aesMix (s : List Nat) : List Nat :=
  (List.range 16).map fun i =>
    let c := 4 * (i / 4)
    let g := fun k => s.getD (c + (i + k) % 4) 0
    aesX (g 0) ^^^ (aesX (g 1) ^^^ g 1) ^^^ g 2 ^^^ g 3

/-- AES-128 encryption of a block of 16 bytes under a key of 16 bytes. -/
def aesEnc (key blk : List Nat) : List Nat :=
  let r := aesRcon.foldl (fun (a : List Nat × List Nat × Nat) rc =>
    let (k, s, i) := a
    let k' := aesNextKey k rc
    let s' := aesShift s
    (k', xorList (if i < 9 then aesMix s' else s') k', i + 1)) (key, xorList blk key, 0)
  r.2.1

/-- The inverse of the substitution. -/
def aesInvTable : List Nat := (List.range 256).map fun b => ((List.range 256).find? fun a => aesS a == b).getD 0

/-- Inverse ShiftRows and SubBytes. -/
def aesUnshift (s : List Nat) : List Nat :=
  (List.range 16).map fun i => aesInvTable.getD (s.getD ((i + 12 * (i % 4)) % 16) 0) 0

/-- Inverse MixColumns. -/
def aesUnmix (s : List Nat) : List Nat :=
  (List.range 16).map fun i =>
    let c := 4 * (i / 4)
    let g := fun k => s.getD (c + (i + k) % 4) 0
    aesMul (g 0) 14 8 ^^^ aesMul (g 1) 11 8 ^^^ aesMul (g 2) 13 8 ^^^ aesMul (g 3) 9 8

/-- The eleven round keys, the last first. -/
def aesKeys (key : List Nat) : List (List Nat) :=
  aesRcon.foldl (fun ks rc => aesNextKey (ks.headD []) rc :: ks) [key]

/-- AES-128 decryption of a block of 16 bytes. -/
def aesDec (key blk : List Nat) : List Nat :=
  match aesKeys key with
  | [] => blk
  | k :: ks =>
    (ks.foldl (fun (a : List Nat × Nat) rk =>
      let s := xorList (aesUnshift a.1) rk
      (if a.2 < 9 then aesUnmix s else s, a.2 + 1)) (xorList blk k, 0)).1

/-! ## CMAC -/

/-- Doubling of a 128-bit block, most significant byte first. -/
def cmacDbl (b : List Nat) : List Nat :=
  let v := b.foldl (fun a x => 256 * a + x) 0
  let d := if v ≥ 2 ^ 127 then ((2 * v) % 2 ^ 128) ^^^ 0x87 else 2 * v
  (be 16 d).map (·.toNat)

/-- The chaining of full blocks, n of them. -/
def cmacChain (key : List Nat) : Nat → List Nat → List Nat → List Nat × List Nat
  | 0, m, x => (m, x)
  | n + 1, m, x => cmacChain key n (m.drop 16) (aesEnc key (xorList x (m.take 16)))

/-- AES-128 CMAC (NIST SP 800-38B) of a byte list: 16 bytes. -/
def cmac (key msg : List Nat) : List Nat :=
  let l := aesEnc key (List.replicate 16 0)
  let k1 := cmacDbl l
  let k2 := cmacDbl k1
  let n := if msg.length = 0 then 0 else (msg.length - 1) / 16
  let (rest, x) := cmacChain key n msg (List.replicate 16 0)
  let last := if rest.length = 16 then xorList rest k1
              else xorList ((rest ++ 0x80 :: List.replicate 16 0).take 16) k2
  aesEnc key (xorList x last)

/-! ## Directives (08 sections 8.6, 8.7) -/

/-- The n bits of a number, most significant first. -/
def natBits (n v : Nat) : List Bool := (List.range n).map fun i => v.testBit (n - 1 - i)

/-- The number that bits spell, most significant first. -/
def bitsNat (bs : List Bool) : Nat := bs.foldl (fun a b => 2 * a + bit b) 0

/-- The CRC-8 of 08 R291 over a bit string. -/
def crc8 (bs : List Bool) : Nat := crcBits 8 0x07 0 bs

/-- The 40 bits of a directive (08 Table 8-3). -/
def directiveWord (handle bank seq op arg : Nat) (auth : Bool) : Nat :=
  pack [(handle, 28), (bank, 25), (seq, 21), (op, 15), (arg, 1), (bit auth, 0)]

/-- The 32 bits of the MAC of a directive (08 R292); the key's byte 0 is the first of the cipher. -/
def directiveMac (key : List Byte) (passId nonce acnt dir crc : Nat) : Nat :=
  beNat (((cmac ((padTo 16 key).map (·.toNat))
    ((be 4 passId ++ be 2 nonce ++ be 1 acnt ++ be 5 dir ++ be 1 crc).map (·.toNat))).take 4).map (BitVec.ofNat 8 ·))

/-- The cells of a copy: directive, CRC and MAC (08 R290). -/
def copyBits (dir : Nat) (mac : Option (Nat → Nat)) : List Bool :=
  let bs := natBits 40 dir
  let crc := crc8 bs
  bs ++ natBits 8 crc ++ match mac with | some m => natBits 32 (m crc) | none => []

end Sys2Proof.Machine
end

