-- ==== Sys2Proof/Config.lean ====
section
/-! DEFINITION. What an implementation fixes and what the spec leaves open: constants with no body, so that nothing can be
proved about their values (log entry 10). The counters `Vexone.fresh` and `Lalvo.fresh` give each draw its own value. -/

namespace Sys2Proof

/-- The unique die number of 17 Table 17-5 (SERIAL_HI, SERIAL_LO): set at the factory. -/
opaque Config.serial : BitVec 64

/-- The wrapping key drawn from the on-chip random source at a reset (06 R203). -/
opaque Config.wrapKey : Nat → BitVec 128

/-- The NONCE a pass draws (08 R292; random source). -/
opaque Config.nonce : Nat → BitVec 16

/-- The coin a pass throws for an offered tag (08 R273): true where it answers the beacon. -/
opaque Config.helloCoin : Nat → Bool

/-- What a word of the LAV-12 NVM holds after a programming that failed its read-back or lost its supply (10 R363, R376). -/
opaque Config.nvmWord : Nat → BitVec 16

/-- What a conversion code reads in 1/8 degree C at a beta where the formula of 14 R493 has no value, at or near a resistance of
zero. -/
opaque Config.thermT : BitVec 12 → Nat → Int

/-- Whether a temperature that is no whole count of 1/8 degree C is held as the count above it: 14 R493 gives no rounding. -/
opaque Config.thermUp : BitVec 12 → Nat → Bool

/-- Where the PWM periods of a fan channel begin, in CCLK within 8,680: they are not aligned to the tick (14 R497). -/
opaque Config.fanPhase : Nat → Nat

/-- Whether a rail is in dropout (11 R388: eight periods at maximum duty), by its reference and its output: the spec gives
no rule that computes the duty. -/
opaque Config.dropout : Nat → Nat → Bool

/-- The frequency correction, in ppm, that a follower's tracking chooses from its present correction and the error of a
valid pulse (01 R36, R38): the spec gives no law for it. -/
opaque Config.pull (ppm err : Int) : Int

/-- The units delivered that the controller derives from a pass's report and the one before it (08 Table 8-2 "from the
pass's reported charge"): the spec gives no formula. -/
opaque Config.delivered (prev new : BitVec 64) : Nat

/-- The base measurement of a search whose pair ran no CARRIER in the frame before the first trial, by handle and tick (08
R277): the spec gives no value. -/
opaque Config.noBase : BitVec 12 → Nat → BitVec 16

/-- What the CHK field of a context in a slot holds, by handle and edge: no valid CHK (06 R202). -/
opaque Config.slotChk : BitVec 12 → Nat → BitVec 16

/-- What the reserved bits [30:16] of the last word of a telemetry record show of the frame-inexact flag while it is set (01
Table 1-5): no record layout gives it a place. -/
opaque Config.inexactMark : BitVec 15

/-- The directives that the device chooses to send of its own accord, an opcode and its argument (08 section 8.10: "then
OP_SET and POLICY"): the spec does not say when, nor with which values. -/
opaque Config.direct : Nat → Option (Nat × Nat)

end Sys2Proof
end

