-- ==== Sys2Proof/Machine/State.lean ====
section
/-! DEFINITION. The state of the Ramari platform as plain data: the secondary die of the VXN-416 (`Vexone`), its OTP key
slots (`Otp`, which every reset keeps: 16 Table 16-1), its primary die (`Primary`), one LAV-12 pass die (`Lalvo`, log
entry 6) and the queue of waiting commands. INVENTORY.md lists every field with its rule and its reset value. -/

namespace Sys2Proof.Machine

/-- Why a command stops the machine: nothing does. The spec gives every command an effect, or says that it is ignored. -/
inductive Fault where
  deriving DecidableEq, Repr

/-- Why a command is refused. -/
inductive Refusal where
  /-- The command has no meaning yet. Raised by a refused arm of `exec` alone. Safe. -/
  | notModelled (mnemonic : String)
  deriving DecidableEq, Repr

/-! ## Time, power and clock -/

/-- Where the secondary die stands between power and service (16 Table 16-1, Table 16-3, Table 16-4; 19 R632, R633). -/
inductive PowerStage where
  | held                    -- supplies risen or falling; the power-on release has not come (R542)
  | running                 -- released
  | stopping (from_ : Nat)  -- a software reset was written at this CCLK time (16 Table 16-3)
  | inReset (from_ : Nat)   -- its internal reset is asserted
  deriving DecidableEq, Repr

structure Power where
  stage : PowerStage
  vio33 : Bool          -- VIO mode fixed at the release (19 R633)
  rstCause : BitVec 3   -- RST_CAUSE: SOFT, DIP, POR (16 R547)
  deriving DecidableEq, Repr

structure Clock where
  frame : BitVec 32     -- FRM_NUM (01 R22)
  edge : Nat            -- edge of the latest step in this frame (log entry 2)
  t0 : Nat              -- CCLK from the start of ticking to edge 0 of this frame (log entry 2)
  ticks : Nat           -- ticks since the start of ticking (log entry 2)
  ticking : Bool        -- frame 0 has opened (01 R24)
  backup : Bool         -- CLK_STAT.SRC (17 R583)
  lost : Bool           -- the reference has been declared lost and not restored (01 R42, R45)
  lock : Bool           -- CLK_STAT.LOCK
  xiOk : Bool           -- CLK_STAT.XI_OK
  cause : BitVec 8      -- CLK_STAT.CAUSE
  syncf : Nat           -- CLK_STAT.SYNCF, kHz
  syncLost : Bool       -- SYNC_IN declared lost (01 R41)
  syncOut : Bool        -- SYNC_IN outside 0.5-2.0 MHz (11 R397)
  inexact : Bool        -- FRM_STAT.INEXACT
  inexactNext : Bool    -- set from the next tick (01 Table 1-5)
  restore : Option Place -- the place of a CLOCK_RESTORE between execution and its switching tick (01 R45)
  deriving DecidableEq, Repr

/-- The follower states of 01 Table 1-4 (FSTATE of 17 Table 17-5). -/
inductive FState where
  | none | acquiring | locked | holdover | unlocked
  deriving DecidableEq, Repr

structure FrameRole where
  role : Nat            -- ROLE_IF: 0 solo, 1 master, 2 follower
  ofs : Int             -- FS_OFS in force
  st : FState
  err : Int             -- FRM_STAT.ERR
  hold : Nat            -- FRM_STAT.HOLD
  good : Nat            -- consecutive frames with the error within 2 CCLK
  seen : Bool           -- the first valid pulse of this acquisition has come
  jump : Int            -- phase jump due at the next tick (01 Table 1-4)
  aligned : Bool        -- bench position aligned since lock (01 R39)
  epoch : Bool          -- an epoch marker has come since lock
  alignLow6 : Bool      -- the marker sets frame bits [5:0] to zero at the tick it marks
  alignLow12 : Bool     -- the marker sets frame bits [11:0] to zero at the tick it marks
  missing : Nat         -- consecutive expected pulses missing or invalid
  firstMiss : Nat       -- tick count of the expected tick of the first of the pulses whose absence led to holdover
  missBefore : Nat      -- the count of missing pulses before the latest valid one (01 R52)
  lastWin : Nat         -- 1 + tick count of the FSYNC_I window of the latest rising edge (01 R52)
  validWin : Nat        -- the same of the latest window with one valid pulse
  missWin : Nat         -- the same of the latest window counted as missing
  pull : Int            -- frequency correction, ppm (01 R36)
  pulse : Nat           -- width of this frame's FSYNC_O pulse, 0 for none (01 R35)
  deriving DecidableEq, Repr

/-! ## Registers, faults, pairs and settings due at the tick -/

/-- One listed register word: its address in the window and its value. -/
abbrev RegCell := Nat × Word

structure Regs where
  wr : List RegCell      -- RW registers last written, those that differ from reset, addresses rising (00 R9)
  inForce : List RegCell -- shadowed registers in force, those that differ from reset (01 R26, R27)
  fresh : List Nat       -- shadowed registers written and not yet latched (17 R577)
  stale : List (Nat × List RegCell) -- ring values that the mirrors of a master whose port was reset show up to the next tick (17 R600)
  spiMode3 : Bool        -- SPI_STAT.MODE (17 Table 17-6)
  badFrames : Nat        -- SPI_STAT.BADFRAMES
  nowFrm : Vector (BitVec 32) 3   -- NOW_FRM of each master (17 R585)
  hot : List (Nat × Nat × Nat)    -- what the hardware has added to an RC field, by register, in its latest CCLK (00 R16)
  served : Nat × BitVec 3         -- the masters whose accesses have been received in one CCLK, with its time (00 R17)
  deriving DecidableEq, Repr

/-- What the device keeps of one fault code (16 R555, 17 R596). -/
structure FaultEntry where
  code : Nat
  mask : BitVec 16
  first : BitVec 32
  latest : BitVec 32
  count : Nat
  deriving DecidableEq, Repr

/-- The declared pairs of 01 Table 1-2 with their instance. -/
inductive PairId where
  | railCmd (r : RailId)
  | ot (r : RailId)
  | segShort (s : SegId)
  | segOpen (s : SegId)
  | reef (l : LaneId)
  | mbusOv
  | fanRow (c : FanId) (row : Fin 8)
  | ringGeo (m : Master) (r : Fin 10)
  | msix (p : Port) (v : Fin 16)
  | frameRole
  deriving DecidableEq, Repr

/-- The halves of one pair written since it last took effect, and whether a commit named it (01 R29). -/
structure PairPend where
  id : PairId
  h1 : Option Int
  h2 : Option Int
  commit : Bool
  deriving DecidableEq, Repr

/-- The settings that operations leave for the next tick (05 R168, mark `tick`). -/
inductive Setting where
  | unfurl (segs : BitVec 16)
  | furl (segs : BitVec 16)
  | reef (l : LaneId) (level : Fin 4)
  | legDrive (s : SegId) (src snk dead : Nat)
  | sessLimits (l : LaneId) (timeout retries : Nat)
  | energyCap (h : BitVec 12) (cap : Nat)
  | railOn (r : RailId) (delay : Nat)
  | railOff (r : RailId) (delay : Nat)
  | railRestart (r : RailId)
  | railSync (r : RailId) (en : Bool) (fsw : Nat)
  | chgSet (ichg vcell : Nat)
  | chgOn
  | chgOff
  | balSet (en : Bool) (thresh : Nat)
  | motorEnable (n : MotorId) (en : Bool)
  | motorDrive (n : MotorId) (src dead : Nat)
  | flapMove (n : MotorId) (pos vmax acc : Nat)
  | motorBrake (n : MotorId)
  | motorRelease (n : MotorId)
  | chopperSet (en : Bool)
  | egressArm (lanes : BitVec 4)
  | egressDisarm
  | fanMode (c : FanId) (mode duty : Nat) (mask : BitVec 8)
  | fanHyst (c : FanId) (hyst : Nat)
  | fanTach (c : FanId) (limit time : Nat)
  | fanWdog (limit : Nat)
  | fanRestore
  | thermSet (n : Fin 8) (beta : Nat)
  | cxPin (h : BitVec 12)
  | cxUnpin (h : BitVec 12)
  | cxKey (h : BitVec 12) (key : List Byte) (keyId : Byte)
  | cxRetire (h : BitVec 12)
  | spoilSet (base : BitVec 64) (m : Master)
  | keyRevoke (slot : Fin 4)
  | faultClear (named : List (Nat × BitVec 16))
  | quiet
  | resume
  | frameResync
  deriving DecidableEq, Repr

/-- What the device does of itself at an edge that an earlier step has fixed. -/
inductive Later where
  | clockSwitch                       -- CCLK switches to the backup (01 Table 1-5)
  | clockFurl                         -- the furl of a reference loss falls due (01 Table 1-5)
  | clockFault (code : Nat)           -- the code of a reference loss latches (01 Table 1-5)
  | lossFans                          -- owner loss: the fans (03 Table 3-6)
  | lossFault                         -- owner loss: fault 0x0301 (03 Table 3-6)
  | lossFurl                          -- owner loss: the furl falls due (03 Table 3-6)
  | lossBrake                         -- owner loss: the motors brake-hold (03 Table 3-6)
  | segment (s : SegId)               -- the change under way on a segment (07 R230, R237)
  | release (s : SegId)               -- an entry ends that held a segment off its carrier vector (07 R239)
  | decode (m : Master) (cl : Cls)    -- the decode at the head of a ring's chain ends (15 R522)
  | mailbox (cl : Cls)                -- an M2 mailbox transfer reaches the decoder (15 R522)
  | orphan (p : Place) (seq : Nat)    -- the execution of an operation that a port reset left ends (04 R155)
  | chopLow                           -- the least time of CHOP_DRV ends (12 R439)
  | adopt (r : RailId)                -- a RAIL_UPDATE ends (11 R386)
  | balance (r : RailId) (mA : Vector Nat 6)      -- a BAL_UPDATE ends (15 Table 15-1)
  | fanUpdate (c : FanId)             -- a FAN_UPDATE ends (14 R499)
  | thermEnd (codes : Vector (BitVec 12) 8) (die : Vector Int 4)   -- a THERM_SCAN ends (14 Table 14-1)
  | otShut (r : RailId)               -- an over-temperature shutdown acts (11 Table 11-5)
  | motion (n : MotorId) (egress : Bool)          -- a MOTOR_UPDATE or an EGRESS_STEP ends (15 Table 15-1)
  | regen (vbus : Nat)                -- a CHOPPER_UPDATE ends (15 Table 15-1)
  | chgSample (d : ScanData)          -- the sample of a CHG_UPDATE (13 R463)
  | segDiag (s : SegId) (failed : Bool)           -- a SEG_DIAG ends on a segment
  | haltFurl (m : BitVec 16)          -- the furl of a FIELD_HALT or a LANE_EGRESS falls due (15 Table 15-3)
  | railKill (r : RailId)             -- a RAIL_KILL acts (15 Table 15-3)
  | chgKill                           -- a CHG_KILL acts (15 Table 15-3)
  | snap (p : Place) (seq i : Nat)    -- a query copies the state (15 Table 15-3)
  | cxMove                            -- a move of a CX_WINDOW starts (06 R207; 15 R519)
  | spiWrite (a : Nat) (be : BitVec 4) (w : Word)   -- a register of an SPI write frame completes (17 R581)
  | resetStop                         -- software reset: segments, rails, charger and motors stop (16 Table 16-3)
  | resetAssert                       -- software reset: the internal reset is asserted
  | resetRelease                      -- software reset before the first lock: the internal reset is released
  deriving DecidableEq, Repr

/-- A `Later` with the CCLK time at which it happens. -/
structure Timed where
  at_ : Nat
  what : Later
  deriving DecidableEq, Repr

/-- A setting due at the next tick, with the place of its operation and that operation's admission number. -/
structure Due where
  place : Place
  seq : Nat
  set : Setting
  deriving DecidableEq, Repr

/-! ## The Halyard -/

/-- The four states of 03 section 3.4. -/
inductive HalState where
  | free
  | owned (m : Master)
  | offered (m n : Master) (framesLeft : Nat)
  | lapsed (m : Master)
  deriving DecidableEq, Repr

structure HalRes where
  lastCmd : BitVec 8
  result : BitVec 8
  seq : BitVec 16
  deriving DecidableEq, Repr

structure LinkBudget where
  recovMs : Nat
  replayUs : Nat
  deriving DecidableEq, Repr

structure Halyard where
  st : HalState
  tag : BitVec 16
  ignWr : Nat
  accept : Option (BitVec 16)   -- an ACCEPT waiting for the handover tick, with its TAG
  count : Nat                   -- OWD_LIMIT.COUNT
  limit : Nat                   -- OWD_LIMIT.LIMIT
  budgetA : LinkBudget
  budgetB : LinkBudget
  res : Vector HalRes 3
  deriving DecidableEq, Repr

/-! ## Ports, masters, rings and operations -/

structure MsixVector where
  addr : BitVec 64
  data : Word
  masked : Bool
  pending : Bool
  records : Nat                 -- records since its last message (04 R149)
  firstAt : Nat                 -- CCLK time of the first of those records
  irqNow : Bool                 -- one of them completes a descriptor with IRQ_NOW
  deriving DecidableEq, Repr

structure PortState where
  linkUp : Bool
  speed : BitVec 2
  bme : Bool
  flr : Bool
  flrTo : Nat                   -- CCLK time at which the function-level reset ends (04 R155)
  perst : Bool
  aerCe : Nat
  cto : BitVec 4                -- Completion Timeout Value (04 R663)
  fmask : Bool                  -- MSI-X function mask
  msix : Vector MsixVector 16
  deriving DecidableEq, Repr

/-- The credit pools of 04 Table 4-7. -/
inductive Pool where
  | ownerU | ownerGen | obs
  deriving DecidableEq, Repr

/-- A descriptor received and not yet decoded (15 R522): its read request, the credit it holds, its words, and the CCLK time at
which its decode ends. -/
structure Decoding where
  rid : Nat
  pool : Pool
  words : List Word
  endAt : Nat
  deriving DecidableEq, Repr

/-- A ring's indices and flags; its geometry, ENABLE and VECTOR are the shadowed registers of its set-up block. -/
structure Ring where
  dev : BitVec 16               -- DEV_IDX
  host : BitVec 16              -- HOST_IDX
  bell : Option (BitVec 16)     -- recorded doorbell value (04 R129)
  bellAt : Nat                  -- CCLK time at which it was recorded
  halted : Bool
  drops : Nat
  gen : Nat                     -- counts enables, so that older data is known (04 R133)
  fetched : BitVec 16           -- index past the descriptors already requested
  decEnd : Nat                  -- CCLK time at which the ring's last decode ends (15 R522)
  chain : List Decoding         -- descriptors received and not yet decoded, in ring order
  deriving DecidableEq, Repr

/-- An event as queued (04 R125). -/
structure Event where
  code : Nat
  seq : BitVec 16
  frame : BitVec 32
  offset : Nat
  payload : List Byte
  deriving DecidableEq, Repr

/-- The EV_OVERFLOW marker (04 R145). -/
structure Marker where
  dropped : Nat
  firstSeq : BitVec 16
  lastSeq : BitVec 16
  frame : BitVec 32
  offset : Nat
  deriving DecidableEq, Repr

/-- A telemetry record waiting to be drained (04 R126): KIND, bench, payload, and the flag of 01 Table 1-5. -/
structure TeleRec where
  kind : Nat
  bench : Nat
  payload : List Byte
  inexact : Bool          -- the frame-inexact flag (01 Table 1-5)
  deriving DecidableEq, Repr

structure MasterState where
  rings : Vector Ring 10
  events : List Event
  evSeq : BitVec 16
  marker : Option Marker
  tele : List TeleRec
  teleSeq : BitVec 16
  teleDropped : Nat
  subBox : Vector (List RegCell) 4      -- M2's submission mailboxes: words that are not zero, by index
  cplShown : Vector (List Word) 4       -- what the completion mailboxes read
  evMem : List (Nat × List Word)        -- M2's on-chip event ring, by position
  teMem : List (Nat × List Word)        -- M2's on-chip telemetry ring, by position
  deriving DecidableEq, Repr

/-- A completion record's fields before it is written (04 R124). -/
structure Comp where
  status : Byte
  detail : BitVec 16
  frame : BitVec 32
  offset : Nat
  deriving DecidableEq, Repr

/-- How far an admitted operation has come. -/
inductive OpPhase where
  | admitted              -- waits for a cleat of its class
  | running               -- executing: a span, or a setting whose completion is already fixed
  | complete (c : Comp)   -- its completion waits in the holding store
  deriving DecidableEq, Repr

/-- One place of the completion holding store with the operation that holds it (04 R135 to R138). -/
structure Op where
  place : Place
  m : Master
  cls : Cls
  pool : Pool
  words : List Word       -- the 16 words of the descriptor
  admAt : Nat             -- CCLK time of admission
  elig : Nat              -- tick count from which R165 counts; meaningful once the buffer is in
  bufLeft : Nat           -- buffer reads not yet arrived
  bufAsked : Nat          -- buffer reads issued
  buf : List Byte         -- buffer data read
  hadCtx : Bool           -- its context was resident at an edge 200,000 since it became eligible (05 R165)
  seq : Nat               -- admission order
  phase : OpPhase
  readyAt : Nat           -- CCLK time at which its completion entered the holding store
  parked : Bool
  orphan : Bool           -- its completion is never written (04 R155)
  result : List Byte      -- result to write before the record
  wrote : Nat             -- bytes of it already written
  deriving DecidableEq, Repr

/-- What an outstanding read request is for: of a descriptor fetch, the descriptors still to be taken with the credits they
hold; of a buffer, the operation's place and admission number. -/
inductive ReadKind where
  | descr (m : Master) (cls : Cls) (n : Nat) (pools : List Pool) (gen : Nat)
  | buffer (p : Place) (seq ofs len : Nat)
  | image (ofs len : Nat)
  | fill (h : BitVec 12) (op : Option Place)
  deriving DecidableEq, Repr

structure ReadReq where
  rid : Nat
  m : Master
  kind : ReadKind
  at_ : Nat               -- CCLK time of issue
  limit : Nat             -- completion timeout that applies, in CCLK (04 R663)
  got : List Word         -- descriptor data received and not yet taken into the ring's decodes
  deriving DecidableEq, Repr

/-- What the block has put on its ports (log entry 7). -/
inductive OutRec where
  | post (m : Master) (addr : Nat) (words : List Word)
  | read (m : Master) (rid : Nat) (addr : Nat) (len : Nat)
  | msix (p : Port) (v : Fin 16)
  | regRead (m : Master) (addr : Nat) (value : Word)
  | unsupported (p : Port)
  | pocket (at_ : Nat) (s : SegId) (p : Nat)   -- a selection frame on PSEL and PSTB (18 Table 18-1)
  | sideband (at_ : Nat) (segs : BitVec 16) (cells : List SbCell)   -- the cells of a fragment, from its first edge (08 R285, R286)
  | pcd (at_ : Nat) (segs : BitVec 16) (rate : Nat) (bits : List Bool)   -- a PCD frame, its bits in order, without parity (07 R255)
  deriving DecidableEq, Repr

/-! ## Images and the schedule -/

/-- A template entry (02 Table 2-5). -/
structure Entry where
  engines : BitVec 6
  kind : Nat
  start : Nat
  cls : Nat
  partner : Nat
  dur : Nat
  code : Nat
  param : Nat
  tracks : BitVec 32
  deriving DecidableEq, Repr

/-- The resource declaration (02 Table 2-3). -/
structure Decl where
  deploy : Nat
  lanes : BitVec 4
  segs : BitVec 16
  motors : BitVec 4
  motorMode : BitVec 8
  rails : BitVec 3
  fans : BitVec 4
  therms : BitVec 8
  pockets : Nat
  lins : BitVec 16
  fieldLimit : Nat
  fbusMax : Nat
  mbusNom : Nat
  cxReserve : Nat
  loadQuota : Nat
  deriving DecidableEq, Repr

/-- An image decoded from its bytes. -/
structure Image where
  id : Word
  len : Nat
  egressTpl : Nat
  quietTpl : Nat
  decl : Decl
  tpls : List (List Entry)
  seq : List Nat
  keySlot : Nat
  deriving DecidableEq, Repr

/-- An image store (02 section 2.6): its bytes as fetched, and the image once its proof has passed. -/
structure Store where
  raw : List Byte
  image : Option Image
  deriving DecidableEq, Repr

/-- A load or proof in progress (02 R72, R74; 04 R134). -/
structure Load where
  m : Master
  addr : Nat
  len : Nat
  asked : Nat             -- bytes requested so far
  quotaLeft : Nat         -- bytes of quota still to issue, this frame's and what earlier frames missed
  issued : Nat            -- bytes requested in this frame
  start : Nat             -- ticks when it started (02 R72)
  short : Nat             -- frames of the fetch that fell short of their quota
  deriving DecidableEq, Repr

inductive ProofSt where
  | idle | fetching | checking | passed | failed
  deriving DecidableEq, Repr

structure Swap where
  place : Place
  bench : Nat
  deriving DecidableEq, Repr

/-- A KEY_FUSE between execution and its read-back (05 R181, R182). -/
structure Fusing where
  place : Place
  slot : Fin 4
  hash : List Byte
  deriving DecidableEq, Repr

structure Images where
  active : Store
  standby : Store
  load : Option Load
  proof : ProofSt
  code : Nat
  tpl : BitVec 16
  entry : BitVec 16
  proofId : Word
  fetched : Nat
  swap : Option Swap
  abort : Bool            -- a load has ended with 0x0218, posted at the next tick (02 R72)
  fusing : List Fusing    -- oldest first
  deriving DecidableEq, Repr

/-- Which template a frame runs (02 R75, R78). -/
inductive Running where
  | harbour
  | ordinary (t : Nat)
  | egress
  | quiet
  deriving DecidableEq, Repr

/-- A binding of a handle to a partner pair of P cleats (08 R275): the entries, the handle, its vector and grant. -/
structure Binding where
  first : Nat
  second : Nat
  lane : LaneId
  tracks : BitVec 16
  handle : BitVec 12
  vec : Vector Nat 4      -- Pa, Sa, Pb, Sb
  grant : Nat
  lost : Bool             -- the service of this frame was cut (07 R250, 18 R628)
  served : Nat            -- P cleats held to their end in this frame, the one in progress counted
  cur : Nat               -- P cleat in progress or last begun: 1 the first, 2 the second, 0 none (cut cleats included)
  frag : Bool             -- it carries a fragment
  cells : Nat             -- data cells of its copy that the fragment carries
  answered : Bool         -- the pass answered in this frame
  asked : Bool            -- a fragment went to a tagged pass whole in this frame
  coupled : Int           -- coupled power of its P cleats of this frame, in uW times CCLK (08 R276)
  lit : Nat               -- CCLK of those cleats
  cand : Int × Int        -- the phase and the amplitude difference that it holds (08 R277)
  judged : Bool           -- this frame's measurement has been judged
  op : Option Nat         -- the session operation bound with it, by admission number (15 R525)
  deriving DecidableEq, Repr

structure Sched where
  run : Running
  next : Nat              -- template read at edge 200,000
  used : List Nat         -- cleats of the running template that have executed an operation in this frame
  bind : List Binding     -- this frame
  nbind : List Binding    -- decided for the next frame
  pauses : List (BitVec 12) -- handles whose binding was released for this frame (02 R80)
  quietSel : Bool         -- a quiet selection is in force
  made : List Entry       -- the entries of the template that `nbind` was made against (02 R80)
  deriving DecidableEq, Repr

/-! ## Field engine -/

/-- 07 Table 7-2; a carrying segment is driven while an entry holds its track and coasts otherwise. -/
inductive SegPhase where
  | furled | dark | carrying | faultOff
  deriving DecidableEq, Repr

structure Tag where
  handle : Option (BitVec 12)
  freeAt : Nat            -- tick count before which the tag is not given again (08 R272)
  deriving DecidableEq, Repr

/-- A change that waits for a zero crossing, or for a period boundary where no carrier runs (07 R230, R237). -/
inductive SegDo where
  | furl                  -- the segment furls (07 R251)
  | dark                  -- its carrier stops (07 R239; 18 Table 18-1)
  | rest (till : Nat)       -- a REFRESH holds it stopped up to a CCLK time (07 Table 7-4)
  | vector (p s : Nat)    -- another vector (07 R237)
  | start (p s : Nat)     -- dark to driven, or the end of a REFRESH (07 R237)
  deriving DecidableEq, Repr

/-- What the field engine measures on a segment (08 R276, R277). Sums of real power are in uW times CCLK; beside each stands the
sum, over the same time, of the squared fundamental of the bridge, in units of 1e-12 mV² times CCLK. -/
structure Meter where
  kP : Nat                -- the loss coefficient in force is kP / kX
  kX : Nat
  benP : Nat              -- frames of this bench in which the segment carried with no pass answering
  benX : Nat
  frmP : Nat              -- this frame
  frmX : Nat
  heard : Bool            -- a pass has answered in this frame
  runP : Nat              -- the CARRIER runs of this frame, and their length
  runX : Nat
  runT : Nat
  lastP : Nat             -- those of the frame before
  lastX : Nat
  lastT : Nat
  deriving DecidableEq, Repr

structure Seg where
  phase : SegPhase
  act : Option (Nat × SegDo) -- the change under way, and the step of the step grid at which it happens (07 R230, R231)
  from_ : Nat             -- step at which the vector applied was taken (07 R237)
  rest : Bool             -- a REFRESH holds it stopped (07 Table 7-4)
  pulseTo : Nat           -- CCLK time at which the refresh pulse in progress ends (07 R241)
  waitTo : Nat            -- CCLK time at which the wait for the bootstraps ends (07 R242)
  want : Nat × Nat        -- the vector that a segment applies when that wait ends (07 R242)
  modEnd : Nat            -- CCLK time at which the last downlink modulation pause ended (07 R246)
  shortAt : Option Nat    -- CCLK time of the last short that stopped a segment whose open load was being judged (07 R263)
  dips : List Nat         -- CCLK times at which the dips of the latest fragment begin (08 R285)
  meter : Meter
  holdTo : Nat            -- edge at which the entry that holds the track ends
  inP : Bool              -- that entry is a P cleat
  p : Nat                 -- vector applied
  s : Nat
  cp : Nat                -- carrier vector
  cs : Nat
  ncp : Nat               -- carrier vector chosen for the next frame (08 R279)
  ncs : Nat
  fresh : Bool            -- unfurled since the last choice (08 R279)
  src : Nat
  snk : Nat
  dead : Nat
  shTh : Nat
  shDl : Nat
  opTh : Nat
  opDl : Nat
  bstA : Bool
  bstB : Bool
  waitBst : Bool          -- dark to driven, low sides on until both bootstraps are good (07 R242)
  cnt : Vector Nat 8      -- 07 R262
  refreshAt : Nat         -- tick count of the last refresh or carrying period
  pocket : Nat            -- latched pocket (18 R605)
  sel : Option (Nat × Nat) -- the last selection frame: CCLK time of its first edge, and its pocket (18 R608)
  skipped : Bool          -- dark until its next POCKET_SEL that is not skipped (18 R618)
  guarded : Bool          -- its latched pocket is not clear (18 R618)
  tags : Vector Tag 16    -- rack: the segment's tags (08 R272)
  deriving DecidableEq, Repr

structure Lane where
  level : Fin 4
  ampCap : Nat
  busCap : Nat
  timeout : Nat
  retries : Nat
  tags : Vector Tag 16          -- gate: the lane's tags (08 R272)
  short : Nat                   -- consecutive frames with the budget below the gate-pair demand (08 Table 8-9)
  cnt : Vector Nat 8            -- 05 Table 5-15, kind 6
  deriving DecidableEq, Repr

/-- Where an ISO/IEC 14443 session stands (07 section 7.9). -/
inductive SessPhase where
  | wake                  -- S(DESELECT) to an indeterminate pass
  | request               -- WUPA
  | anticoll (level : Nat)
  | select (level : Nat)
  | rats
  | pps
  | command (sent : Nat)  -- I-blocks of the command, bytes acknowledged so far
  | response              -- chained blocks of the response
  | deselect
  | over                  -- expired or ended; the pair still listens (07 R260)
  deriving DecidableEq, Repr

structure Session where
  place : Place
  tag : BitVec 16
  handle : BitVec 12
  lane : LaneId
  tracks : BitVec 16      -- the segments of its pair
  phase : SessPhase
  attempts : Nat          -- errors on the current command or block
  bindTick : Nat
  timeout : Nat
  retries : Nat
  cmdLen : Nat
  listening : Bool
  listenTo : Nat          -- CCLK time at which the wait for an answer passes
  toSend : Bool           -- a PCD frame waits for an exchange window
  nak : Bool              -- that frame is R(NAK)
  wtx : Bool              -- that frame is the S(WTX) response
  wtxm : Nat              -- WTXM in force for the next wait, 0 for none
  chunk : Nat             -- bytes of the command in the I-block last sent
  silent : Bool           -- every attempt on the current command or block went unanswered (05 Table 5-2)
  vec : Vector Nat 4      -- the pass's steering vector when its frame was sent (07 R256)
  known : List Bool       -- UID bits of the cascade level known so far, in order of arrival
  block : Bool            -- PCD block number
  maxRate : Nat
  uid : List Byte
  cl : List Byte          -- UID part of the cascade level in progress
  sak : Nat
  ats : List Byte
  rx : List Byte
  expTick : Nat           -- tick count at which the session timeout expired
  deriving DecidableEq, Repr

/-! ## The Context Store and the energy loop -/

/-- A context (06 Table 6-1), with STEER (08 Table 8-1), LEDGER (08 Table 8-2) and ISO and COUNTERS (07 Table 7-11). -/
structure Ctx where
  handle : Nat
  gen : Nat
  loc : Nat
  pocket : Nat
  flags : BitVec 3
  lastFrame : Nat
  firstFrame : Nat
  identity : List Byte
  -- STEER
  vec : Vector Nat 4
  tune : Nat
  ratio : Nat
  vtgt : Nat
  trials : Nat
  converged : Bool
  cBest : Nat
  cBase : Nat
  cLast : Nat
  lowCnt : Nat
  -- LEDGER
  grantTot : Nat
  delivTot : Nat
  grantLast : Nat
  cap : Nat
  demand : Nat
  seq : Nat
  lastSeq : Nat
  tag : Nat
  tagged : Bool
  outstanding : Bool
  passId : Nat
  nonce : Nat
  acnt : Nat
  pol : Nat
  -- ISO
  isoState : Nat
  rate : Nat
  fwi : Nat
  fsci : Nat
  sfgi : Nat
  block : BitVec 3
  wtxm : Nat
  attempt : Nat
  opTag : Nat
  bindFrame : Nat
  deadline : Nat
  sent : Nat
  rcvd : Nat
  -- COUNTERS
  retryTot : Nat
  timeouts : Nat
  late : Nat
  rxErr : Nat
  missedRep : Nat
  fieldLoss : Nat
  wtxCnt : Nat
  -- KEY
  key : List Byte
  keyId : Nat
  deriving DecidableEq, Repr

/-- A directive the controller has under way to a handle (08 R287, R297). -/
structure OutDir where
  bits : List Bool        -- the copy's cells: directive, CRC and MAC
  seq : Nat
  op : Nat
  arg : Nat
  auth : Bool
  sentA : Nat
  sentB : Nat
  endA : Nat                  -- CCLK time at which the last cell sent of copy A ends
  endB : Nat
  lapsed : Bool               -- its copies have lapsed: the next report judges it (08 R304, R309)
  deriving DecidableEq, Repr

/-- What the device keeps of a bound handle beside its context (08 sections 8.2, 8.3, 8.9; 08 Table 8-8). -/
structure LoopRec where
  handle : BitVec 12
  dir : Option OutDir
  queue : List (Nat × Nat)    -- directives waiting: opcode and argument
  offer : Option Nat          -- tag offered by BEACON
  beacons : Nat
  noTag : Bool                -- the tag shortage has been recorded
  mute : Bool                 -- another card answers at its pocket (18 R614)
  quietTo : Nat               -- tick count until which no tag is offered
  keeps : Nat
  noRep : Nat                 -- frames since the last good report, KEEP or tag
  got : Bool                  -- a good report has come in this frame
  missed : Bool               -- a report has been missed in this frame
  missRun : Nat               -- consecutive served frames whose report was missed (08 R275)
  repAt : Option Nat          -- CCLK time from which the report in progress dates; none before the first report (08 R299)
  pcdFrom : Nat               -- CCLK time before which no PCD frame goes to the pass (07 R257)
  away : Option Nat           -- tick count at which its context left the store; none while it is resident (08 R305)
  last : Option Ctx           -- the context as it left the store (08 R300)
  ichg : Nat                  -- charge current last sent, 5 uA codes
  ichgCom : Nat               -- ICHG committed at the pass, 5 uA codes
  vchg : Nat                  -- charge voltage last sent, mV
  vchgCom : Nat               -- VCHG committed at the pass, mV
  rep : Option (BitVec 64)    -- last good report
  -- search (08 R277, R278)
  fromCarrier : Bool          -- the search starts from the carrier vectors in force, its first trial not yet judged
  p0 : Nat
  cenP : Int                  -- the vector about which a step's two trials lie
  cenD : Int
  dP : Int                    -- the best vector
  dD : Int
  trackCnt : Nat              -- served frames since convergence
  trackDir : Bool             -- the next tracking trial is at dP - 1
  restartAt : Nat             -- tick count at which a search that ended below 5 uW restarts
  -- bench counts
  bGrant : Nat
  bDeliv : Nat
  bServed : Nat
  bGood : Nat
  bMissed : Nat
  bDone : Nat
  bLost : Nat
  heldRun : Nat               -- consecutive frames holding a pair of the same segments
  deriving DecidableEq, Repr

/-- The handle table's entry of a handle (06 section 6.2). -/
structure HEntry where
  handle : BitVec 12
  tracked : Bool
  slot : Option Nat       -- resident in this slot
  ctx : Option Ctx        -- the resident copy
  clean : Bool
  pin : Bool
  gen : BitVec 16
  loc : Nat               -- LOC, POCKET and FIRST_FRAME as the context last held them (18 R610)
  pocket : Nat
  first : Nat
  hintTo : Nat            -- hint-protected until this tick count
  spillTick : Nat         -- tick count of the last spill
  freeAt : Nat            -- tick count from which the handle may be given again (06 R198)
  visitAt : Nat           -- rack: tick count at which its pocket was last left or reached (18 R620)
  busy : Bool             -- subject of a move already issued (06 R211)
  deriving DecidableEq, Repr

structure Hint where
  handle : BitVec 12
  due : Nat               -- tick count of the due frame
  lane : Nat
  counted : Bool          -- already counted as late
  out : Bool              -- no longer in the queue: its fill has been issued, or its handle is resident
  deriving DecidableEq, Repr

/-- A pass sighted and not yet created (06 R206, R214). -/
structure Sighting where
  loc : Nat
  pocket : Nat
  known : Option (BitVec 12)  -- the tracked handle that answered
  deriving DecidableEq, Repr

structure Cx where
  tab : List HEntry
  demand : List (BitVec 12 × Bool) -- the demand queue; true for an approach answer (06 R209)
  hints : List Hint
  sight : List Sighting       -- sighted in this frame
  create : List Sighting      -- the creation queue
  reserve : List (BitVec 12)  -- handles for which a spill reserved the freed slot (06 R208)
  wantSpill : List (BitVec 12) -- candidates whose spill a refused CX_FILL has queued (06 Table 6-4)
  spoil : Option (BitVec 64 × Master)
  abandon : Bool              -- the spoil area is abandoned at the next tick (06 R216)
  halted : Bool               -- owner loss: no move is issued (06 R216)
  freeMin : Nat
  created : Nat
  deferred : Nat
  dropped : Nat
  fills : Nat
  spills : Nat
  cleanFreed : Nat
  hintLate : Nat
  hintDrop : Nat
  checkFail : Nat
  wrap : Nat                  -- which draw of the wrapping key is in force (06 R203)
  loops : List LoopRec
  deriving DecidableEq, Repr

/-! ## Rails -/

/-- 11 section 11.5. -/
inductive RailSt where
  | off | delay | rampUp | on | rampDown | latched | otShut
  deriving DecidableEq, Repr

structure Rail where
  st : RailSt
  tgt : Nat               -- commanded target in force
  slew : Nat              -- slew in force
  eff : Nat               -- effective target adopted
  aSlew : Nat             -- slew adopted
  ref : Nat               -- reference, 0.25 mV units
  vout : Nat              -- mV
  slewAt : Option Nat     -- CCLK time at which the slew in progress began
  slewLen : Nat           -- its total length
  delayTo : Nat           -- CCLK time at which the delay, or a delayed ramp down, ends
  offPend : Bool          -- a ramp down waits for its delay
  stepAt : Nat            -- CCLK time from which the next slot boundary moves the reference
  stopAt : Option Nat     -- CCLK time of the last protective stop (11 R411)
  warn : Nat
  shut : Nat
  warnLo : Bool           -- the warning is judged against WARN - 5 (16 R553)
  warnRun : Nat
  warnClr : Nat
  shutRun : Nat
  fsw : Nat
  syncEn : Bool
  glideAt : Nat           -- CCLK time at which the last glide of the rail's clock began (11 R398)
  glideFrom : Nat         -- the clock's frequency then, kHz
  trunc : Option Nat      -- tick count of the last truncation
  truncNow : Bool
  trim : Vector Int 4
  ends : Vector Nat 4
  cnt : Vector Nat 8
  deriving DecidableEq, Repr

/-! ## Motion -/

/-- 12 Table 12-3. -/
inductive MotorSt where
  | disabled | hold | idle | moving | braking | faultOff
  deriving DecidableEq, Repr

/-- What a motor leg does: both transistors off, one of them on, or PWM-driven high (12 Tables 12-2, 12-3, R421). -/
inductive LegRole where
  | off | low | high | pwm
  deriving DecidableEq, Repr

structure Move where
  place : Option Place    -- a FLAP_MOVE's operation; none for an egress move
  pos : Nat
  vmax : Nat
  acc : Nat
  homing : Bool           -- runs at CREEP until a creep stall
  steps : Nat             -- open-loop steps still to take (12 R443, R444)
  openLoop : Bool
  deriving DecidableEq, Repr

structure Motor where
  st : MotorSt
  src : Nat
  dead : Nat
  homed : Bool
  pos : Int
  move : Option Move
  fwd : Bool              -- direction of motion: opening
  hall : BitVec 3
  expect : BitVec 3       -- code last counted, qualified or extrapolated
  tLast : Option Nat      -- CCLK time of the last qualified or extrapolated edge
  interval : Nat          -- last interval
  edges : Nat             -- edges since standstill (12 R432)
  extra : Bool            -- the last edge was extrapolated
  corrected : Option Nat  -- CCLK time of the latest correction (12 R434)
  vset : Nat              -- profile velocity, 1/216,960 edge/s
  vLast : Nat             -- profile velocity at the last edge
  integ : Int             -- integral term, 1/256 percent
  duty : Int              -- 0.1 percent
  updAt : Nat             -- CCLK time of the last motion update
  undo : Option (Nat × Int × Int × Nat × Nat) -- set-point, integral, duty, counter and time before that update (12 R447)
  startAt : Nat           -- CCLK time at which the move began
  brakeTicks : Nat        -- tick count at which braking began
  lowHold : Bool          -- brake-hold on the low sides whatever BH_SIDE says (12 R416)
  fallback : Bool
  rejSince : Nat
  pins : BitVec 6         -- mode 2: EN and P of U, V, W
  stWas : MotorSt         -- the state before the last change, and its CCLK time (12 R454)
  stAt : Nat
  legsWas : Vector LegRole 3 -- the legs before their last commutation, and the CCLK time at which it takes effect (12 R415)
  turnAt : Nat
  cnt : Vector Nat 8
  deriving DecidableEq, Repr

structure Mbus where
  vbus : Nat              -- 10 mV
  thr : Nat
  dly : Nat
  chopEn : Bool
  chop : Bool             -- CHOP_DRV
  forced : Bool
  regen : Bool
  chopOn : Nat            -- chopper on-time that has ended, CCLK
  chopAt : Nat            -- CCLK time at which CHOP_DRV rose
  chopLow : Bool          -- it is to go low as its least time ends (12 R439)
  ovCount : Nat
  uvlo : Bool             -- the rails' input under-voltage comparator (16 R551)
  risen : Bool            -- VBUS has risen through 7.0 V since reset (16 R551)
  deriving DecidableEq, Repr

structure EgressLane where
  lane : LaneId
  start : Nat             -- tick count of its start frame
  begun : Bool
  done : Bool
  deriving DecidableEq, Repr

structure Egress where
  armed : BitVec 4
  active : Bool
  plan : List EgressLane
  atTick : Nat            -- tick count of E
  eFrame : BitVec 32
  judged : BitVec 4       -- lanes judged in this frame, active from the next tick
  cause : Nat             -- cause of the first of them: 1 mains, 2 EGRESS_N, 3 LANE_EGRESS
  nHigh : Bool            -- EGRESS_N has been high since it last acted (16 R554)
  stopDue : Bool          -- every lane was done at this frame's tick (13 R479)
  deriving DecidableEq, Repr

/-! ## Reservoir and mains -/

/-- 13 R464; absorbing (R483) is told from the regeneration choice. -/
inductive ChgPhase where
  | off | cc | cv | done
  deriving DecidableEq, Repr

structure Reservoir where
  cells : Vector Nat 6    -- mV
  stack : Nat             -- independent measurement, mV
  chgMa : Nat
  phase : ChgPhase
  on : Bool               -- CHG_ON in force
  ichg : Nat
  vcell : Nat
  balEn : Bool
  balTh : Nat
  bleed : BitVec 6
  suspect : BitVec 7
  openL : BitVec 7
  ready : Bool
  hold : Bool             -- reservoir hold (13 R480)
  low : Bool              -- reservoir hold has passed HOLD_END
  dropout : Bool
  ovInit : Bool           -- the cell over-voltage state that starts set (16 R552)
  cellOv : BitVec 6       -- cells at or above their threshold at the last PROT_SCAN
  pairOv : BitVec 7
  stackOv : Bool
  ovRead : BitVec 7       -- readings that qualified, cells 0 to 5 and the stack in bit 6
  ovPair : BitVec 7       -- pairs that qualified
  oc : Bool
  cellSh : BitVec 6       -- cells whose short qualified
  shortNow : BitVec 6     -- cells short at the last PROT_SCAN
  sumBad : Bool
  cvLow : Nat
  offTo : Nat             -- CCLK time to which a CHG_UPDATE holds the pass element off (13 R463)
  diagTo : Nat            -- CCLK time to which a SENSE_DIAG freezes the drive and the balancers (13 R470)
  frozen : Nat            -- the current regulated to when that SENSE_DIAG started, mA
  verdict : Option (BitVec 7)   -- lines that moved in a SENSE_DIAG, judged in the next window (13 Table 13-4)
  lowRun : Nat            -- consecutive ticks with the stack low (13 Table 13-2)
  cnt : Vector Nat 8
  deriving DecidableEq, Repr

structure Mains where
  st : Nat                -- 0 present, 1 brown-out, 2 absent
  dc : Bool
  priEn : Bool
  lost : Bool             -- link lost
  relink : Nat            -- half-cycles at 115 V still wanted after a link loss (13 R488)
  ov : Bool
  peak : Nat
  half : Nat
  seen : Bool             -- a good P_STAT has arrived (16 R548)
  statAt : Nat            -- CCLK time of the last good P_STAT (13 R474)
  cnt : Vector Nat 8
  deriving DecidableEq, Repr

/-! ## Temperature and fans -/

structure ThermIn where
  beta : Nat
  t8 : Int                -- 1/8 degree C
  badRun : Nat
  goodRun : Nat
  faulted : Bool
  deriving DecidableEq, Repr

structure Therm where
  ins : Vector ThermIn 8
  die : Vector Int 4
  hotLo : Bool            -- the die-temperature cause is judged against 120 degrees C (16 R553)
  hotRun : Nat
  hot : Bool              -- the cause holds
  deriving DecidableEq, Repr

structure FanRow where
  temp : Int
  duty : Nat
  isOn : Bool
  arm : Bool
  deriving DecidableEq, Repr

/-- FANn_PWM (14 R497, R498). -/
inductive FanPin where
  | hiZ | low | duty (d : Nat)
  deriving DecidableEq, Repr

structure Fan where
  mode : Nat
  duty : Nat
  mask : BitVec 8
  hyst : Nat
  rows : Vector FanRow 8
  pin : FanPin
  pinWas : FanPin         -- what drove the pin before, and up to the start of the next period (14 R497)
  pinAt : Nat             -- CCLK time at which that changed
  applied : Nat
  limit : Nat
  time : Nat
  edge1 : Option Nat      -- the last counted tach edge
  edge2 : Option Nat      -- the one before
  rpm : Nat
  slowAt : Option Nat     -- tick count of the first slow judgement
  slowFault : Bool
  forced : BitVec 4       -- causes 0 to 3 of 14 Table 14-2
  cnt : Vector Nat 6
  deriving DecidableEq, Repr

structure FanWdog where
  armed : Bool
  limit : Nat
  count : Nat
  due : Bool              -- the latest tick emptied the counter (14 R505)
  deriving DecidableEq, Repr

/-! ## Racks -/

structure Rack where
  q : Nat
  k : Nat
  certain : Bool
  lost : Bool
  homed : Bool
  run : Bool              -- LIN1
  teeth : Nat             -- teeth since LIN1 rose
  tLast : Option Nat
  interval : Nat
  extra : Bool            -- the last column was extrapolated
  sure : Bool             -- the column was certain before it
  tQual : Option Nat      -- CCLK time of the last qualified tooth
  homeAt : Option Nat     -- CCLK time of the last rising edge of LIN3 (18 R625)
  frameEnd : Nat          -- CCLK time at which the last selection frame ends
  nQual : Nat
  nRej : Nat
  nExtra : Nat
  nSkip : Nat
  nMis : Nat
  nUncert : Nat
  deriving DecidableEq, Repr

/-- Diagnostics requested and waiting for an activity (05 Table 5-9). -/
structure Diag where
  place : Place
  test : Nat
  unit : Nat
  ticks : Nat             -- tick count at execution
  deriving DecidableEq, Repr

/-- What the mirrors show at edges 0 to 7 after a tick: the parts they are read from as they stood before it (01 R27; 17 R579,
R598). -/
structure Shown where
  regs : Regs
  segs : Vector Seg 16
  lanes : Vector Lane 4
  fb : Rail
  ax : Rail
  motors : Vector Motor 4
  mbus : Mbus
  eg : Egress
  quietSel : Bool
  res : Reservoir
  mains : Mains
  th : Therm
  fans : Vector Fan 4
  fwd : FanWdog
  deriving DecidableEq, Repr

/-- The secondary die. -/
structure Vexone where
  pw : Power
  clk : Clock
  fr : FrameRole
  regs : Regs
  fnEn : BitVec 13
  faults : List FaultEntry
  pairs : List PairPend
  due : List Due
  hal : Halyard
  portA : PortState
  portB : PortState
  ms : Vector MasterState 3
  ops : List Op
  opSeq : Nat
  reads : List ReadReq
  nextRid : Nat
  out : List OutRec
  img : Images
  sch : Sched
  segs : Vector Seg 16
  lanes : Vector Lane 4
  sess : List Session
  busCap : Nat            -- the field bus's effective cap, which changes at a tick (07 R253)
  cx : Cx
  fb : Rail
  ax : Rail
  motors : Vector Motor 4
  mbus : Mbus
  eg : Egress
  res : Reservoir
  mains : Mains
  th : Therm
  fans : Vector Fan 4
  fwd : FanWdog
  rack : Rack
  diags : List Diag
  lin : BitVec 16
  dcnt : Vector Nat 8     -- 05 Table 5-15, kind 7
  shown : Option Shown    -- none before the first tick
  later : List Timed      -- what the device does of itself at later edges, earliest first
  fresh : Nat             -- the model's own: free values are applied to it (log entry 10)
  deriving DecidableEq, Repr

/-! ## OTP, primary die -/

inductive SlotSt where
  | empty | fused | revoked
  deriving DecidableEq, Repr

structure KeySlot where
  st : SlotSt
  hash : Vector Byte 32
  deriving DecidableEq, Repr

structure Otp where
  slots : Vector KeySlot 4
  deriving DecidableEq, Repr

/-- 13 R472. -/
inductive MainsSt where
  | present | brownOut | absent
  deriving DecidableEq, Repr

structure Primary where
  st : MainsSt
  dc : Bool
  priEn : Bool
  priOn : Bool            -- PRI_ON as the last S_CMD gave it
  dark : Bool             -- no good S_CMD for 500 us (13 R474)
  ov : Bool
  peak : Nat
  half : Nat
  deriving DecidableEq, Repr

/-! ## LAV-12 -/

/-- The modes of 10 Table 10-2, and the cold start (10 R347). -/
inductive LavMode where
  | dead | cold | active | supervise | shelf | hold
  deriving DecidableEq, Repr

inductive LavCharge where
  | trickle | precharge | cc | cv | done | failed | timedOut
  deriving DecidableEq, Repr

/-- A directive received (08 Table 8-3), with the TAG of the fragments that carried it. -/
structure Directive where
  tag : BitVec 4
  handle : BitVec 12
  bank : BitVec 3
  seq : BitVec 4
  op : BitVec 6
  arg : BitVec 14
  auth : Bool
  deriving DecidableEq, Repr

/-- A copy stream, one for each COPY and TAG heard (08 R287, R288): the bits of its copy in progress, and whether the copy
before has been lost. -/
structure CopyRx where
  copyB : Bool
  tag : BitVec 4
  bits : Option (List Bool)
  lost : Bool
  since : Nat             -- when its last fragment arrived, us of the pass
  deriving DecidableEq, Repr

/-- A good copy held for its judgement (08 R298). -/
structure Held where
  d : Directive
  copyB : Bool
  since : Nat             -- us of the pass
  deriving DecidableEq, Repr

structure LavLink where
  handle : BitVec 12
  tag : BitVec 4
  bank : BitVec 3
  hasHandle : Bool
  tagged : Bool
  lastSeq : BitVec 4
  anySeq : Bool           -- a directive has been accepted in this field
  nonce : BitVec 16
  acnt : Byte
  macFails : Nat
  macf : Bool
  remote : Bool
  remoteAt : Nat          -- when a directive was last judged (08 R295), us of the pass
  hasBank : Bool          -- an ASSIGN has been accepted in this field, and its bank adopted (08 R274)
  cold : Bool
  commitBad : Bool        -- a commit has been rejected since the last report (08 R296)
  beaconOf : Option (BitVec 12 × BitVec 4) -- handle and SEQ of the BEACON last heard
  beacons : Nat           -- BEACONs of that handle heard
  helloTag : Option (BitVec 4)  -- a hello goes out in the fragments of this tag
  streams : List CopyRx
  held : List Held        -- oldest first
  judged : List Directive -- accepted, in SEQ order, waiting to act
  stIchg : Option Nat
  stVchg : Option Nat
  stPg : Option (Nat × Nat)
  report : List Bool      -- bits of the report string still to send
  sentBits : List Bool    -- uplink bits sent
  deriving DecidableEq, Repr

structure LavTracker where
  vtgtPhase : Bool
  up : Bool
  n : Nat
  low : Nat
  pPrev : Nat
  deriving DecidableEq, Repr

structure LavProt where
  ov : Bool
  ovRun : Nat
  uv : Bool
  ocPause : Bool
  ocAt : Nat              -- when the pause began, us of the pass
  ocTrips : Nat
  ocStop : Bool
  docOpen : Bool
  docTrips : Nat
  docAt : Nat             -- when the last discharge over-current trip was, us of the pass
  docWas : Option (Nat × Nat) -- trips and time before a trip, until the next sample (09 R341)
  docStop : Bool
  short : Bool
  chgT : Bool
  disT : Bool
  chgTOut : Nat
  chgTIn : Nat
  disTOut : Nat
  disTIn : Nat
  ageRun : Nat
  deriving DecidableEq, Repr

structure LavNvm where
  words : Vector (BitVec 16) 64
  limits : Bool           -- LIMITS blown
  issued : Bool           -- ISSUED blown
  deriving DecidableEq, Repr

/-- The settings in force (10 R364, R367). -/
structure LavSet where
  ichg : Nat              -- 5 uA
  vchg : Nat              -- mV
  pgHi : Nat              -- code
  pgLo : Nat
  vhold : Nat             -- mV
  supTime : Nat           -- s
  benign : Nat            -- 5 uA
  vloadHigh : Bool        -- 3.00 V
  tuneStart : Nat
  tune : Nat
  vtgt : Nat              -- mV
  ratio : Nat             -- ratio run
  dirRatio : Option Nat   -- ratio directed
  deriving DecidableEq, Repr

/-- An impedance check under way (09 R329): its 250 us samples so far, and VCS and cell current at the end of its first
2 ms. -/
structure ImpCheck where
  n : Nat
  v0 : Nat
  i0 : Int
  deriving DecidableEq, Repr

structure Lalvo where
  mode : LavMode
  us : Nat                -- time in us, counted in samples (log entry 113)
  coldStep : Nat          -- the step of 09 Table 9-2 that a cold start under way has reached, 0 none
  startRes : Bool         -- the start reservoir stood at 1.60 V or more when the field was lost (09 R313)
  nodeSet : Nat           -- the set-point of the system node, mV; 0 none (09 Table 9-2, 10 R357)
  nvm : LavNvm
  nvmf : Bool
  aged : Bool             -- the limits of an aged cell are in force (09 R330)
  ageDue : Bool           -- they come into force at the next sample
  set : LavSet
  link : LavLink
  trk : LavTracker
  pol : Nat
  chg : LavCharge
  prot : LavProt
  supArm : Bool
  nap : Bool
  carrier : Bool          -- carrier at the last sample
  noCarrier : Nat         -- consecutive samples without carrier
  chgSw : Bool
  disSw : Bool
  loadSw : Bool
  inReg : Bool
  pg : Bool               -- PG decision
  envLow : Bool           -- the field envelope lies below 50 percent (10 R358)
  txm : Bool
  vcs : Nat
  vrect : Nat
  icell : Int
  temp : Int
  vsys : Nat
  vload : Nat
  pin : Nat               -- uW
  rcell : Option Nat
  imp : Option ImpCheck
  impAt : Option Nat      -- when the last impedance check began, us of the pass
  trickleUs : Nat         -- time of trickle, of precharge, and of CV with the current below ITERM, in this field (09 Table 9-7)
  preUs : Nat
  cvUs : Nat
  restAt : Nat            -- since when the cell current has been below 2 uA, us of the pass (09 R335)
  rested : Bool           -- the anchor of this rest has been taken
  supAt : Nat             -- when SUP_TIME began to count, us of the pass
  qg : Nat                -- 0.1 uAh
  qgFrac : Int            -- 1e-6 of 0.1 uAh
  disag : Bool
  nvAddr : BitVec 6
  nvData : BitVec 16
  nvBusy : Bool
  nvRes : BitVec 4
  qgHi : BitVec 2
  fresh : Nat             -- the model's own: free values are applied to it (log entry 10)
  deriving DecidableEq, Repr

/-- The platform and the queue of waiting commands, first in, first out. -/
structure State where
  pending : List Instr
  otp : Otp
  vx : Vexone
  pri : Primary
  lav : Lalvo
  deriving DecidableEq, Repr


/-! ## Reset values

Each part at the values its chapter states for a device reset (16 R542, R543; 17 R594). Values that the spec does not
state are those of log entries 8, 9, 11, 12 and 13. -/

/-- FRM_NUM 0, CCLK from the backup oscillator, no tick yet (01 R24; 17 R583; log entry 12). -/
def Clock.reset : Clock :=
  { frame := 0, edge := 0, t0 := 0, ticks := 0, ticking := false, backup := true, lost := false, lock := false, xiOk := false,
    cause := 0, syncf := 0, syncLost := false, syncOut := false, inexact := false, inexactNext := false,
    restore := none }

/-- Solo (01 R34). -/
def FrameRole.reset : FrameRole :=
  { role := 0, ofs := 0, st := .none, err := 0, hold := 0, good := 0, seen := false, jump := 0, aligned := false,
    epoch := false, alignLow6 := false, alignLow12 := false, missing := 0, firstMiss := 0, missBefore := 0, lastWin := 0,
    validWin := 0, missWin := 0, pull := 0, pulse := 0 }

def Regs.reset : Regs :=
  { wr := [], inForce := [], fresh := [], stale := [], spiMode3 := false, badFrames := 0, nowFrm := Vector.replicate 3 0,
    hot := [], served := (0, 0) }

/-- Free, LIMIT 100 frames, budgets 24 ms and 40 us (03 R93, R98). -/
def Halyard.reset : Halyard :=
  { st := .free, tag := 0, ignWr := 0, accept := none, count := 0, limit := 100,
    budgetA := { recovMs := 24, replayUs := 40 }, budgetB := { recovMs := 24, replayUs := 40 },
    res := Vector.replicate 3 { lastCmd := 0, result := 0, seq := 0 } }

/-- Every MSI-X vector masked (log entry 9). -/
def MsixVector.reset : MsixVector :=
  { addr := 0, data := 0, masked := true, pending := false, records := 0, firstAt := 0, irqNow := false }

/-- The port down, as 17 Table 17-6 gives it. -/
def PortState.reset : PortState :=
  { linkUp := false, speed := 0, bme := false, flr := false, flrTo := 0, perst := false, aerCe := 0, cto := 0, fmask := false,
    msix := Vector.replicate 16 MsixVector.reset }

def Ring.reset : Ring :=
  { dev := 0, host := 0, bell := none, bellAt := 0, halted := false, drops := 0, gen := 0, fetched := 0, decEnd := 0, chain := [] }

def MasterState.reset : MasterState :=
  { rings := Vector.replicate 10 Ring.reset, events := [], evSeq := 0, marker := none, tele := [], teleSeq := 0,
    teleDropped := 0, subBox := Vector.replicate 4 [], 
    cplShown := Vector.replicate 4 [], evMem := [], teMem := [] }

/-- Both stores without an image and the proof idle (16 R542, 17 R590). -/
def Images.reset : Images :=
  { active := { raw := [], image := none }, standby := { raw := [], image := none }, load := none, proof := .idle,
    code := 0, tpl := 0xFFFF, entry := 0xFFFF, proofId := 0, fetched := 0, swap := none, abort := false, fusing := [] }

/-- The harbour schedule (02 R75). -/
def Sched.reset : Sched :=
  { run := .harbour, next := 0, used := [], bind := [], nbind := [], pauses := [], quietSel := false, made := [] }

/-- Nothing measured; until the first estimate the loss coefficient is 0 (08 R276). -/
def Meter.reset : Meter :=
  { kP := 0, kX := 0, benP := 0, benX := 0, frmP := 0, frmX := 0, heard := false, runP := 0, runX := 0, runT := 0,
    lastP := 0, lastX := 0, lastT := 0 }

/-- Furled, SRC and SNK 3, DEAD 4, comparators at 100 and 8, 20 and 2 (07 R228, R236; 17 R594). -/
def Seg.reset : Seg :=
  { phase := .furled, act := none, from_ := 0, rest := false, pulseTo := 0, waitTo := 0, want := (0, 0), modEnd := 0, shortAt := none, dips := [], meter := .reset,
    holdTo := 0, inP := false, p := 0, s := 0, cp := 0, cs := 0, ncp := 0, ncs := 0, fresh := false, src := 3, snk := 3, dead := 4,
    shTh := 100, shDl := 8, opTh := 20, opDl := 2, bstA := false, bstB := false, waitBst := false,
    cnt := Vector.replicate 8 0, refreshAt := 0, pocket := 0, sel := none, skipped := false, guarded := false,
    tags := Vector.replicate 16 { handle := none, freeAt := 0 } }

/-- Level 0, caps 32 and 1,400 (07 R252), session limits 500 and 2 (07 R258). -/
def Lane.reset : Lane :=
  { level := 0, ampCap := 32, busCap := 1400, timeout := 500, retries := 2,
    tags := Vector.replicate 16 { handle := none, freeAt := 0 }, short := 0,
    cnt := Vector.replicate 8 0 }

/-- No handle tracked, every slot free, no spoil area (06 R197). -/
def Cx.reset : Cx :=
  { tab := [], demand := [], hints := [], sight := [], create := [], reserve := [], wantSpill := [], spoil := none,
    abandon := false, halted := false, freeMin := 384, created := 0, deferred := 0, dropped := 0, fills := 0,
    spills := 0, cleanFreed := 0, hintLate := 0, hintDrop := 0, checkFail := 0, wrap := 0, loops := [] }

/-- A rail off, with the commands of 17 Table 17-10; the warning starts set (16 R553). -/
def Rail.reset (tgt : Nat) : Rail :=
  { st := .off, tgt := tgt, slew := 100, eff := 0, aSlew := 0, ref := 0, vout := 0, slewAt := none, slewLen := 0,
    delayTo := 0, offPend := false, stepAt := 0, stopAt := none, warn := 110, shut := 125, warnLo := true, warnRun := 0, warnClr := 0, shutRun := 0,
    fsw := 1000, syncEn := false, glideAt := 0, glideFrom := 1000, trunc := none, truncNow := false,
    trim := Vector.replicate 4 0, ends := Vector.replicate 4 0, cnt := Vector.replicate 8 0 }

/-- A motor disabled (12 R425), SRC 7, DEAD 22 (12 R414, R415). -/
def Motor.reset : Motor :=
  { st := .disabled, src := 7, dead := 22, homed := false, pos := 0, move := none, fwd := true, hall := 0, expect := 0,
    tLast := none, interval := 0, edges := 0, extra := false, corrected := none, vset := 0, vLast := 0,
    integ := 0, duty := 0, updAt := 0, startAt := 0, brakeTicks := 0, lowHold := false, fallback := false,
    rejSince := 0, pins := 0, undo := none, stWas := .disabled, stAt := 0, legsWas := Vector.replicate 3 .off, turnAt := 0,
    cnt := Vector.replicate 8 0 }

/-- THR 120, DELAY 20, the chopper off, the input comparator in under-voltage (12 R440; 16 R550, R551). -/
def Mbus.reset : Mbus :=
  { vbus := 0, thr := 120, dly := 20, chopEn := false, chop := false, forced := false, regen := false, chopOn := 0,
    chopAt := 0, chopLow := false, ovCount := 0, uvlo := true, risen := false }

/-- Inactive and unarmed (16 R542); EGRESS_N's earlier level counts as high (16 R554). -/
def Egress.reset : Egress :=
  { armed := 0, active := false, plan := [], atTick := 0, eFrame := 0, judged := 0, cause := 0, nHigh := true,
    stopDue := false }

/-- The charger off at 100 mA and code 270, balancers off at 20 mV, the cell over-voltage state set (17 R594, 16 R552). -/
def Reservoir.reset : Reservoir :=
  { cells := Vector.replicate 6 0, stack := 0, chgMa := 0, phase := .off, on := false, ichg := 100, vcell := 270,
    balEn := false, balTh := 20, bleed := 0, suspect := 0, openL := 0, ready := false, hold := false, low := false,
    dropout := false, ovInit := true, cellOv := 0, pairOv := 0, stackOv := false, ovRead := 0, ovPair := 0, oc := false,
    cellSh := 0, shortNow := 0, sumBad := false, cvLow := 0, offTo := 0, diagTo := 0, frozen := 0,
    verdict := none, lowRun := 0, cnt := Vector.replicate 8 0 }

/-- The mains counts as absent until the first good P_STAT (16 R548). -/
def Mains.reset : Mains :=
  { st := 2, dc := false, priEn := false, lost := false, relink := 0, ov := false, peak := 0, half := 0,
    seen := false, statAt := 0, cnt := Vector.replicate 8 0 }

/-- Beta 3,435 K (14 R493); the die-temperature cause starts forced, judged against the lower level (16 R550, R553). -/
def Therm.reset : Therm :=
  { ins := Vector.replicate 8 { beta := 3435, t8 := 0, badRun := 0, goodRun := 0, faulted := false },
    die := Vector.replicate 4 0, hotLo := true, hotRun := 0, hot := false }

/-- Mode 0, high-impedance, every row at -40 degrees C and 100 percent (14 R498, R499, R501, R503). -/
def Fan.reset : Fan :=
  { mode := 0, duty := 0, mask := 0, hyst := 3,
    rows := Vector.replicate 8 { temp := -40, duty := 100, isOn := false, arm := false }, pin := .hiZ, pinWas := .hiZ, pinAt := 0, applied := 0,
    limit := 0, time := 4, edge1 := none, edge2 := none, rpm := 0, slowAt := none, slowFault := false, forced := 0,
    cnt := Vector.replicate 6 0 }

def Rack.reset : Rack :=
  { q := 0, k := 0, certain := false, lost := false, homed := false, run := false, teeth := 0, tLast := none,
    interval := 0, extra := false, sure := false, tQual := none, homeAt := none, frameEnd := 0, nQual := 0, nRej := 0,
    nExtra := 0, nSkip := 0, nMis := 0, nUncert := 0 }

/-- The secondary die just after its power-on release, on the backup oscillator, before the first lock (16 R542, R543,
R548; log entry 12). -/
def Vexone.reset : Vexone :=
  { pw := { stage := .running, vio33 := true, rstCause := 1 }, clk := .reset, fr := .reset,
    regs := .reset, fnEn := 0, faults := [], pairs := [], due := [], hal := .reset, portA := .reset, portB := .reset,
    ms := Vector.replicate 3 .reset, ops := [], opSeq := 0, reads := [], nextRid := 0, out := [], img := .reset,
    sch := .reset, segs := Vector.replicate 16 .reset, lanes := Vector.replicate 4 .reset, sess := [], busCap := 1400, cx := .reset,
    fb := .reset 200, ax := .reset 100, motors := Vector.replicate 4 .reset, mbus := .reset, eg := .reset,
    res := .reset, mains := .reset, th := .reset, fans := Vector.replicate 4 .reset,
    fwd := { armed := false, limit := 0, count := 0, due := false }, rack := .reset, diags := [], lin := 0,
    dcnt := Vector.replicate 8 0, shown := none, later := [], fresh := 0 }

/-- Every slot empty (17 R590 "as fused"; log entry 8). -/
def Otp.reset : Otp := { slots := Vector.replicate 4 { st := .empty, hash := Vector.replicate 32 0 } }

/-- Absent, PRI_EN deasserted, the secondary dark (13 R475; log entry 11). -/
def Primary.reset : Primary :=
  { st := .absent, dc := false, priEn := false, priOn := false, dark := true, ov := false, peak := 0, half := 0 }

/-- The factory words of 10 Table 10-6, trim words zero (log entry 13), word 63 their CRC-16. -/
def LavNvm.factoryWords : Vector (BitVec 16) 64 :=
  #v[0x0001, 0x0000, 0x0000, 0x0000, 0x0000, 0x0020, 0x0014, 0x0096, 0x028A, 0x0004, 0x000A, 0x0028, 0x0000, 0x0000, 0x0000, 0x0000, 0x0000, 0x0000, 0x0000, 0x0000, 0x0000, 0x0000, 0x0000, 0x0000, 0x0000, 0x0000, 0x0000, 0x0000, 0x0000, 0x0000, 0x0000, 0x0000, 0x0000, 0x0000, 0x0000, 0x0000, 0x0000, 0x0000, 0x0000, 0x0000, 0x0000, 0x0000, 0x0000, 0x0000, 0x0000, 0x0000, 0x0000, 0x0000, 0x0190, 0x00C8, 0x0000, 0x0004, 0x0001, 0x2D00, 0x3CEC, 0x0064, 0x0000, 0x0000, 0x0000, 0x0000, 0x0000, 0x0000, 0x0000, 0x4977]

def LavLink.reset : LavLink :=
  { handle := 0, tag := 0, bank := 0, hasHandle := false, tagged := false, lastSeq := 0, anySeq := false, nonce := 0,
    acnt := 0, macFails := 0, macf := false, remote := false, remoteAt := 0, hasBank := false, cold := false, commitBad := false, beaconOf := none,
    beacons := 0, helloTag := none, streams := [], held := [], judged := [], stIchg := none, stVchg := none, stPg := none,
    report := [], sentBits := [] }

def LavTracker.reset : LavTracker := { vtgtPhase := false, up := true, n := 0, low := 0, pPrev := 0 }

def LavProt.reset : LavProt :=
  { ov := false, ovRun := 0, uv := false, ocPause := false, ocAt := 0, ocTrips := 0, ocStop := false, docOpen := false,
    docTrips := 0, docAt := 0, docWas := none, docStop := false, short := false, chgT := false, disT := false, chgTOut := 0, chgTIn := 0,
    disTOut := 0, disTIn := 0, ageRun := 0 }

/-- The settings of the factory words: ICHG 20, VCHG 4,100 mV, the PG pair 20 and 10, VHOLD 3,000 mV, 10 s, benign 40,
VLOAD 1.80 V, tuning 32 (10 Table 10-6). -/
def LavSet.reset : LavSet :=
  { ichg := 20, vchg := 4100, pgHi := 20, pgLo := 10, vhold := 3000, supTime := 10, benign := 40, vloadHigh := false,
    tuneStart := 32, tune := 32, vtgt := 400, ratio := 1, dirRatio := none }

/-- A pass at its factory values with no cell charge known: Dead (10 R347; log entry 13). -/
def Lalvo.reset : Lalvo :=
  { mode := .dead, us := 0, coldStep := 0, startRes := false, nodeSet := 0, nvm := { words := LavNvm.factoryWords, limits := false, issued := false }, nvmf := false,
    aged := false, ageDue := false,
    set := .reset, link := .reset, trk := .reset, pol := 1, chg := .trickle,
    prot := .reset, supArm := false, nap := false, carrier := false, noCarrier := 0, chgSw := false, disSw := false,
    loadSw := false, inReg := false, pg := false, envLow := false, txm := false, vcs := 0, vrect := 0,
    icell := 0, temp := 25, vsys := 0, vload := 0, pin := 0, rcell := none, imp := none, impAt := none,
    trickleUs := 0, preUs := 0, cvUs := 0, restAt := 0, rested := false, supAt := 0, qg := 0, qgFrac := 0, disag := false,
    nvAddr := 0, nvData := 0, nvBusy := false, nvRes := 0, qgHi := 0, fresh := 0 }

/-- The machine right after reset, with no command waiting. -/
def State.reset : State := { pending := [], otp := .reset, vx := .reset, pri := .reset, lav := .reset }

end Sys2Proof.Machine
end

