-- ==== Sys2Proof/Machine/Regs.lean ====
section
/-! DEFINITION. The RW registers of the window: their reset values, their implemented bits and the ranges of their fields
(17 Tables 17-5, 17-7, 17-8; 04 Table 4-2, R148; 11 Table 11-2; 12 Table 12-1, R437, R441; 13 R462, R476), held as
written and as in force. -/

namespace Sys2Proof.Machine

open Sys2Proof

/-! ## The map -/

/-- Set-up address of ring r of master m (04 R116). -/
def ringAddr (m r : Nat) : Nat := 0x2000 + 0x400 * m + 0x20 * r

/-- Moderation register of vector v of master m (04 R148). -/
def moderAddr (m v : Nat) : Nat := 0x2200 + 0x400 * m + 4 * v

/-- Set-up address of a rail (11 R380) and of a motor (12 R417). -/
def railAddr : RailId → Nat
  | .fb => 0x0800
  | .ax => 0x0820
def motorAddr (n : Nat) : Nat := 0x0840 + 0x10 * n

/-- The fixed log2 sizes of M2's rings (04 Table 4-1). -/
def m2Log2 (r : Nat) : Nat := if r < 8 then 0 else if r = 8 then 5 else 4

/-- The value of an RW register after a reset; zero for every address with no other value. -/
def resetWord (a : Nat) : Word :=
  if a = 0x0800 then 0x103C400F else if a = 0x0820 then 0x103C4003
  else if a = 0x0804 then 0x00800001 else if a = 0x0824 then 0x00800000
  else if a = 0x0808 || a = 0x0828 then 0x00000500
  else if a = 0x080C || a = 0x082C then 0x0A2F014A
  else if 0x0840 ≤ a && a < 0x0880 then
    match a % 16 with
    | 0 => 0x40040028
    | 4 => 0x64004032
    | 8 => 0x08640000
    | 12 => 0x00102008
    | _ => 0
  else if a = 0x0880 then 0x0000FFE4
  else if 0x0884 ≤ a && a < 0x08A4 then (if a % 8 = 4 then 0x00640000 else if a % 8 = 0 then 0x00000001 else 0)
  else if a = 0x08C0 then 0x00320450
  else if a = 0x08D0 then 0x328C5F00
  else if 0x2000 ≤ a && a < 0x2C00 then
    let m := (a - 0x2000) / 0x400
    let o := (a - 0x2000) % 0x400
    if o < 0x140 then
      (if o % 0x20 = 8 then BitVec.ofNat 32 (if m = 2 then m2Log2 (o / 0x20) else 4) else 0)
    else if 0x200 ≤ o && o < 0x240 && m < 2 && o % 4 = 0 then 0x00010001
    else 0
  else 0

/-- A field of a set-up register with the range that its chapter gives. -/
structure RegField where
  hi : Nat
  lo : Nat
  min : Nat
  max : Nat
  deriving DecidableEq, Repr

/-- The fields of the shadowed registers of the stages, the motors, the egress plan, the chopper, the reservoir and
MAINS_CTL. -/
def setupFields (a : Nat) : List RegField :=
  if 0x0800 ≤ a && a < 0x0840 then
    let ax := decide (0x0820 ≤ a)
    match a % 0x20 with
    | 0x00 => [⟨29, 24, 0, 63⟩, ⟨23, 16, 20, 150⟩, ⟨15, 8, 8, 255⟩,
        if ax then ⟨1, 0, 1, 3⟩ else ⟨3, 0, 1, 15⟩]
    | 0x04 => [⟨23, 20, 3, 15⟩, ⟨15, 8, 0, 255⟩] ++ (if ax then [⟨0, 0, 0, 1⟩] else [])
    | 0x08 => [⟨12, 8, 1, 31⟩]
    | 0x0C => [⟨31, 24, 1, 255⟩, ⟨23, 16, 1, 255⟩, ⟨15, 0, 1, 65535⟩]
    | _ => []
  else if 0x0840 ≤ a && a < 0x0880 then
    match a % 16 with
    | 0 => [⟨31, 24, 8, 255⟩, ⟨23, 16, 1, 255⟩, ⟨15, 0, 1, 65535⟩]
    | 4 => [⟨31, 24, 10, 255⟩, ⟨16, 16, 0, 1⟩, ⟨15, 14, 0, 3⟩, ⟨13, 13, 0, 1⟩, ⟨6, 0, 5, 100⟩]
    | 8 => [⟨31, 24, 1, 255⟩, ⟨23, 16, 1, 255⟩, ⟨15, 0, 0, 65535⟩]
    | 12 => [⟨31, 16, 1, 65535⟩, ⟨15, 8, 0, 255⟩, ⟨7, 0, 0, 255⟩]
    | _ => []
  else if a = 0x0880 then [⟨15, 8, 1, 255⟩, ⟨7, 0, 0, 255⟩]
  else if 0x0884 ≤ a && a < 0x08A4 then
    (if a % 8 = 4 then [⟨31, 16, 1, 65535⟩, ⟨15, 0, 0, 65535⟩]
     else if a % 8 = 0 then [⟨15, 0, 1, 65535⟩] else [])
  else if a = 0x08C0 then [⟨23, 16, 2, 50⟩, ⟨15, 8, 1, 40⟩, ⟨7, 4, 1, 15⟩]
  else if a = 0x08D0 then [⟨31, 24, 1, 255⟩, ⟨23, 16, 80, 171⟩, ⟨15, 8, 75, 150⟩]
  else if a = 0x08E0 then [⟨0, 0, 0, 1⟩]
  else if a = 0x0010 then [⟨2, 0, 0, 7⟩]
  else if a = 0x0020 then [⟨15, 8, 0, 255⟩, ⟨1, 0, 0, 2⟩]
  else []

/-- The bits of a field as a word mask. -/
def RegField.mask (f : RegField) : Word := BitVec.ofNat 32 ((2 ^ (f.hi + 1 - f.lo) - 1) <<< f.lo)

/-- The implemented RW bits of a register; zero for a reserved or read-only address (00 R11). -/
def rwMask (a : Nat) : Word :=
  if 0x2000 ≤ a && a < 0x2C00 then
    let m := (a - 0x2000) / 0x400
    let o := (a - 0x2000) % 0x400
    if o < 0x140 then
      match o % 0x20 with
      | 0x00 => if m = 2 then 0 else 0xFFFFF000
      | 0x04 => if m = 2 then 0 else 0xFFFFFFFF
      | 0x08 => if m = 2 then 0 else 0xF
      | 0x0C => 0x8000000F
      | _ => 0
    else if 0x200 ≤ o && o < 0x240 && m < 2 && o % 4 = 0 then 0x00FF00FF
    else 0
  else if a = 0x6000 then 0xFFFFFFF8
  else if a = 0x6004 then 0xFFFFFFFF
  else if a = 0x6008 then 0x000FFFFF
  else (setupFields a).foldl (fun w f => w ||| f.mask) 0

/-- Whether an address holds an RW register of this file's kind. -/
def isRw (a : Nat) : Bool := rwMask a != 0

/-- Whether an address holds a shadowed register (17 Table 17-2). -/
def isShadowed (a : Nat) : Bool := isRw a && !(decide (0x6000 ≤ a))

/-! ## Canonical cells -/

/-- The value listed for an address, or its reset value. -/
def cellGet (l : List RegCell) (a : Nat) : Word :=
  match l.lookup a with
  | some w => w
  | none => resetWord a

/-- A value listed for an address, the list staying sorted and without reset values. -/
def cellSet (l : List RegCell) (a : Nat) (w : Word) : List RegCell :=
  let l' := l.filter fun c => c.1 != a
  if w = resetWord a then l' else insertBy (fun x y => x.1 < y.1) (a, w) l'

/-- A cell list is canonical: addresses strictly rising, no reset value listed. -/
def cellsOk (l : List RegCell) : Bool :=
  (l.zip (l.drop 1)).all (fun p => p.1.1 < p.2.1) && l.all fun c => c.2 != resetWord c.1

/-- The value last written to a register, which a read returns (00 R9, 01 R27). -/
def Vexone.written (v : Vexone) (a : Nat) : Word := cellGet v.regs.wr a

/-- The value in force of a shadowed register (01 R26). -/
def Vexone.force (v : Vexone) (a : Nat) : Word := cellGet v.regs.inForce a

/-- A register's written value set, implemented bits only. -/
def Vexone.setWritten (v : Vexone) (a : Nat) (w : Word) : Vexone :=
  let w' := (resetWord a &&& ~~~(rwMask a)) ||| (w &&& rwMask a)
  { v with regs := { v.regs with wr := cellSet v.regs.wr a w' } }

/-- A register's value in force set. -/
def Vexone.setForce (v : Vexone) (a : Nat) (w : Word) : Vexone :=
  { v with regs := { v.regs with inForce := cellSet v.regs.inForce a w } }

/-- A register marked as written and not yet latched (17 R577). -/
def Vexone.markFresh (v : Vexone) (a : Nat) : Vexone :=
  { v with regs := { v.regs with fresh := if v.regs.fresh.contains a then v.regs.fresh else v.regs.fresh ++ [a] } }

def Vexone.unmarkFresh (v : Vexone) (a : Nat) : Vexone :=
  { v with regs := { v.regs with fresh := v.regs.fresh.filter (· != a) } }

/-! ## Fields in force -/

def Vexone.railReg (v : Vexone) (r : RailId) (o : Nat) : Word := v.force (railAddr r + o)
def Vexone.motorReg (v : Vexone) (n o : Nat) : Word := v.force (motorAddr n + o)

/-- ENABLE in force of ring r of master m (04 Table 4-2). -/
def Vexone.ringOn (v : Vexone) (m r : Nat) : Bool := fld (v.force (ringAddr m r + 0x0C)) 31 31 = 1

/-- VECTOR in force of a ring. -/
def Vexone.ringVector (v : Vexone) (m r : Nat) : Nat := fld (v.force (ringAddr m r + 0x0C)) 3 0

/-- Size of a ring in force. -/
def Vexone.ringSize (v : Vexone) (m r : Nat) : Nat := 2 ^ fld (v.force (ringAddr m r + 0x08)) 3 0

/-- Base of a ring in force. -/
def Vexone.ringBase (v : Vexone) (m r : Nat) : Nat :=
  (v.force (ringAddr m r)).toNat + (v.force (ringAddr m r + 4)).toNat * 2 ^ 32

/-- The bank ID in force (08 R274). -/
def Vexone.bankId (v : Vexone) : Nat := fld (v.force 0x0010) 2 0

end Sys2Proof.Machine
end

