-- ==== Sys2Proof/Machine/Flags.lean ====
section
/-! DEFINITION. Fault codes: the classes of 16 Table 16-6, the level of FAULT_N (16 R556), the latched entries (16 R555)
and the status codes of completions (05 Table 5-2, 04 Table 4-8). -/

namespace Sys2Proof.Machine

open Sys2Proof

/-! ## Status codes (05 Table 5-2, 04 Table 4-8) -/

def stOk : Nat := 0x00
def stBadArg : Nat := 0x10
def stNotDeclared : Nat := 0x11
def stNoImage : Nat := 0x12
def stState : Nat := 0x13
def stProtected : Nat := 0x14
def stEgress : Nat := 0x15
def stClock : Nat := 0x16
def stBelowMin : Nat := 0x17
def stLimit : Nat := 0x18
def stPairConflict : Nat := 0x19
def stNoCleat : Nat := 0x1A
def stCancelled : Nat := 0x1B
def stNoContext : Nat := 0x20
def stStoreFull : Nat := 0x21
def stPinned : Nat := 0x22
def stHandle : Nat := 0x23
def stPassLost : Nat := 0x30
def stProtocol : Nat := 0x31
def stSessionTimeout : Nat := 0x32
def stFieldFault : Nat := 0x33
def stTruncated : Nat := 0x34
def stMotionFault : Nat := 0x35
def stImageRefused : Nat := 0x40
def stKeySlot : Nat := 0x41
def stNoActivity : Nat := 0x50
def stTestFail : Nat := 0x51
def stBadDesc : Nat := 0xF0
def stBadOpcode : Nat := 0xF1
def stWrongClass : Nat := 0xF2
def stNotOwner : Nat := 0xF3
def stOwnerLost : Nat := 0xF4
def stNoBuffer : Nat := 0xF5
def stBufFault : Nat := 0xF6

/-! ## Fault classes (16 Table 16-6) -/

inductive FaultClass where
  | s | w | n
  deriving DecidableEq, Repr

/-- The class of a fault code; none for a number that Table 16-6 does not list. -/
def faultClass (c : Nat) : Option FaultClass :=
  if c ∈ [0x0101, 0x0102, 0x0108, 0x0104, 0x0301, 0x0601, 0x0602, 0x0603, 0x0604, 0x0801, 0x0802, 0x0805, 0x0804,
    0x0807, 0x0901, 0x0902, 0x0903, 0x0904, 0x0906, 0x0908, 0x090A, 0x0905, 0x0A01, 0x0A02, 0x0A05, 0x0B01, 0x0B02,
    0x0B04, 0x0C02, 0x0C03, 0x0C04] then some .s
  else if c ∈ [0x0103, 0x0105, 0x0106, 0x0219, 0x0302, 0x0402, 0x0403, 0x0404, 0x0405, 0x0502, 0x0503, 0x0504, 0x0505,
    0x0506, 0x0702, 0x0704, 0x0705, 0x0803, 0x0806, 0x0907, 0x0A03, 0x0A04, 0x0A06, 0x0B03, 0x0C01] then some .w
  else if (0x0201 ≤ c ∧ c ≤ 0x0218) ∨ c ∈ [0x0107, 0x0303, 0x0304, 0x0305, 0x0306, 0x0307, 0x0308, 0x0309, 0x0401,
    0x0406, 0x0407, 0x0408, 0x0501, 0x0605, 0x0701, 0x0703, 0x0706, 0x0808, 0x0909, 0x0A07] then some .n
  else none

/-- Whether a code is one of 0x0201 to 0x0218, of which one is latched at a time (16 R561). -/
def isProofCode (c : Nat) : Bool := decide (0x0201 ≤ c ∧ c ≤ 0x0218)

/-- A code with nothing latched. -/
def FaultEntry.clear (c : Nat) : FaultEntry := { code := c, mask := 0, first := 0xFFFFFFFF, latest := 0, count := 0 }

/-- What is kept of a code. -/
def Vexone.fault (v : Vexone) (c : Nat) : FaultEntry :=
  match v.faults.find? (fun e => e.code == c) with
  | some e => e
  | none => FaultEntry.clear c

/-- Whether an instance of a code is latched. -/
def Vexone.latched (v : Vexone) (c i : Nat) : Bool := (v.fault c).mask.getLsbD i

/-- Whether a code is latched in any instance. -/
def Vexone.anyLatched (v : Vexone) (c : Nat) : Bool := (v.fault c).mask != 0

/-- The lowest of some codes that is latched in an instance. -/
def Vexone.firstLatched (v : Vexone) (cs : List Nat) (i : Nat) : Option Nat := cs.find? fun c => v.latched c i

/-- The entry at a code's place: the proof codes share one (17 Table 17-11). -/
def Vexone.faultPlace (v : Vexone) (c : Nat) : FaultEntry :=
  match v.faults.find? (fun e => e.code == c || (isProofCode e.code && isProofCode c)) with
  | some e => e
  | none => FaultEntry.clear c

/-- Every latched code, ascending. -/
def Vexone.latchedCodes (v : Vexone) : List Nat := (v.faults.filter fun e => e.mask != 0).map (·.code)

/-- The fault entry of a code replaced, the list staying in ascending code order; entries of proof codes share one
place (17 Table 17-11). -/
def Vexone.setFault (v : Vexone) (e : FaultEntry) : Vexone :=
  let rest := v.faults.filter fun x => x.code != e.code && !(isProofCode x.code && isProofCode e.code)
  { v with faults := insertBy (fun a b => a.code < b.code) e rest }

/-- FAULT_N driven low: an S code latched, or a W code whose subsystem FN_EN enables (16 R556, R557). -/
def Vexone.faultN (v : Vexone) : Bool :=
  v.faults.any fun e => e.mask != 0 &&
    match faultClass e.code with
    | some .s => true
    | some .w => v.fnEn.getLsbD (e.code / 256)
    | _ => false

/-- Instances that latch are no longer cleared by a FAULT_CLEAR already executed (16 R568). -/
def Due.spare (c : Nat) (m : BitVec 16) (d : Due) : Due :=
  match d.set with
  | .faultClear named => { d with set := .faultClear (named.map fun x => if x.1 = c then (x.1, x.2 &&& ~~~m) else x) }
  | _ => d

/-- The instances of a mask latched, without any event: frame of the first latching since clear, of the latest, and
the saturating count (16 R555). -/
def Vexone.latchRaw (v : Vexone) (c : Nat) (m : BitVec 16) : Vexone :=
  let v : Vexone := { v with due := v.due.map (Due.spare c m) }
  let e := v.faultPlace c
  let old := if e.code = c then e.mask else 0
  v.setFault
    { code := c, mask := old ||| m, first := if old = 0 then v.clk.frame else e.first,
      latest := v.clk.frame, count := satTo 0xFFFF (e.count + 1) }

/-- Instances of a code cleared: the count and the latest frame are kept (17 R596). -/
def Vexone.clearFault (v : Vexone) (c : Nat) (m : BitVec 16) : Vexone :=
  let e := v.fault c
  if e.mask &&& m = 0 then v
  else
    let mask := e.mask &&& ~~~m
    v.setFault { e with mask := mask, first := if mask = 0 then 0xFFFFFFFF else e.first }

end Sys2Proof.Machine
end

