-- ==== Sys2Proof/Machine/Ops.lean ====
section
/-! DEFINITION. The named operations that every family shares: time, lifting to one die, units and the declaration, the
Halyard's owner, events and faults, settings due at the tick, declared pairs, and the completion of operations. -/

namespace Sys2Proof

def Master.idx : Master → Fin 3
  | .m0 => 0
  | .m1 => 1
  | .m2 => 2

def Port.master : Port → Master
  | .a => .m0
  | .b => .m1

/-- The port of a master; M2 has none (03 Table 3-1). -/
def Master.port : Master → Option Port
  | .m0 => some .a
  | .m1 => some .b
  | .m2 => none

def RailId.num : RailId → Nat
  | .fb => 0
  | .ax => 1

end Sys2Proof

namespace Sys2Proof.Machine

open Sys2Proof

/-! ## Lifting to one die -/

/-- A command that acts on the secondary die alone. -/
def onVx (s : State) (f : Vexone → Vexone) : Host.Outcome State Fault Refusal := .next { s with vx := f s.vx }

/-- A command that acts on the pass die alone. -/
def onLav (s : State) (f : Lalvo → Lalvo) : Host.Outcome State Fault Refusal := .next { s with lav := f s.lav }

/-- A command that acts on the primary die alone. -/
def onPri (s : State) (f : Primary → Primary) : Host.Outcome State Fault Refusal := .next { s with pri := f s.pri }

/-! ## Time (log entry 2) -/

/-- CCLK from the start of ticking to the latest step. -/
def Vexone.now (v : Vexone) : Nat := v.clk.t0 + v.clk.edge

/-- Something left for a CCLK time: the earliest stands first, and what was left first among those of one time. -/
def Vexone.leave (v : Vexone) (t : Nat) (x : Later) : Vexone :=
  { v with later := insertBy (fun a b => decide (a.at_ ≤ b.at_)) { at_ := t, what := x } v.later }

/-- Whether the die runs, so that commands other than resets act on it (16 R542, R543). -/
def Vexone.alive (v : Vexone) : Bool := v.pw.stage == .running

/-- CCLK runs from the backup oscillator, or is about to since a loss has been declared (01 R42, Table 1-5). -/
def Vexone.onBackup (v : Vexone) : Bool := v.clk.lost || v.clk.backup

/-- The frame and edge of a CCLK time in this frame or the next. -/
def Vexone.stampAt (v : Vexone) (t : Nat) : BitVec 32 × Nat :=
  let o := t - v.clk.t0
  if o < frameLen then (v.clk.frame, o) else (v.clk.frame + 1, o - frameLen)

/-! ## Masters, the Halyard -/

def Vexone.portOf (v : Vexone) : Port → PortState
  | .a => v.portA
  | .b => v.portB

def Vexone.setPort (v : Vexone) (p : Port) (x : PortState) : Vexone :=
  match p with
  | .a => { v with portA := x }
  | .b => { v with portB := x }

def Vexone.mst (v : Vexone) (m : Master) : MasterState := v.ms[m.idx]

def Vexone.modMst (v : Vexone) (m : Master) (f : MasterState → MasterState) : Vexone :=
  { v with ms := vmod v.ms m.idx f }

/-- The owner: in owned and in offered (03 section 3.4). -/
def Halyard.owner (h : Halyard) : Option Master :=
  match h.st with
  | .owned m => some m
  | .offered m _ _ => some m
  | _ => none

def Vexone.isOwner (v : Vexone) (m : Master) : Bool := v.hal.owner == some m

/-- The three masters in serving order (00 R17). -/
def masters : List Master := [.m0, .m1, .m2]

def clsNum : Cls → Nat
  | .u => 0
  | .c => 1
  | .p => 2
  | .b => 3

/-- The four classes in the order U, C, P, B. -/
def classes : List Cls := [.u, .c, .p, .b]

/-! ## Read-clear fields (00 R9, R16) -/

/-- What the hardware has added to the RC field of a register in this CCLK. -/
def Vexone.heated (v : Vexone) (a : Nat) : Nat :=
  match v.regs.hot.lookup a with
  | some (t, k) => if t = v.now then k else 0
  | none => 0

/-- The hardware adds to the RC field of a register now: what it adds in the CCLK of a read survives that read. -/
def Vexone.heat (v : Vexone) (a n : Nat) : Vexone :=
  { v with regs := { v.regs with hot := v.regs.hot.filter (·.1 != a) ++ [(a, v.now, satTo 65535 (v.heated a + n))] } }

/-! ## The active image and its declaration -/

def Vexone.active (v : Vexone) : Option Image := v.img.active.image

/-- The declaration in force, where an image is active. -/
def Vexone.decl (v : Vexone) : Option Decl := v.active.map (·.decl)

def Vexone.isRack (v : Vexone) : Bool :=
  match v.decl with
  | some d => d.deploy == 2
  | none => false

def Vexone.declSegs (v : Vexone) : BitVec 16 := (v.decl.map (·.segs)).getD 0
def Vexone.declMotors (v : Vexone) : BitVec 4 := (v.decl.map (·.motors)).getD 0
def Vexone.declFans (v : Vexone) : BitVec 4 := (v.decl.map (·.fans)).getD 0
def Vexone.declTherms (v : Vexone) : BitVec 8 := (v.decl.map (·.therms)).getD 0
def Vexone.declRails (v : Vexone) : BitVec 3 := (v.decl.map (·.rails)).getD 0
def Vexone.fbusMax (v : Vexone) : Nat := (v.decl.map (·.fbusMax)).getD 1400
def Vexone.mbusNom (v : Vexone) : Nat := (v.decl.map (·.mbusNom)).getD 0

/-- The mode of a motor in the declaration (02 Table 2-3). -/
def Vexone.motorMode (v : Vexone) (n : Nat) : Nat := bitsOf ((v.decl.map Decl.motorMode).getD 0).toNat (2 * n + 1) (2 * n)

/-- The segments of lane l. -/
def laneSegs (l : Nat) : BitVec 16 := BitVec.ofNat 16 (0xF <<< (4 * l))

/-- A lane counts as declared: by LANES in a gate image, by one of its segments in a rack image (05 Table 5-2). -/
def Vexone.laneDeclared (v : Vexone) (l : Nat) : Bool :=
  match v.decl with
  | some d => if d.deploy == 2 then d.segs &&& laneSegs l != 0 else d.lanes.getLsbD l
  | none => false

/-- Declared lanes. -/
def Vexone.lanesDeclared (v : Vexone) : List Nat := (List.range 4).filter v.laneDeclared

/-- An unfurled segment: dark or carrying (07 Table 7-2). -/
def Seg.live (s : Seg) : Bool := s.phase == .dark || s.phase == .carrying

/-- The mask of the unfurled segments. -/
def Vexone.unfurled (v : Vexone) : BitVec 16 :=
  BitVec.ofNat 16 ((List.finRange 16).foldl (fun a i => a + bit v.segs[i].live <<< i.val) 0)

/-- The segments that an UNFURL leaves pending for the next tick. -/
def Vexone.unfurlPending (v : Vexone) : BitVec 16 :=
  v.due.foldl (fun a d => match d.set with | .unfurl s => a ||| s | _ => a) 0

def Vexone.rail (v : Vexone) : RailId → Rail
  | .fb => v.fb
  | .ax => v.ax

def Vexone.modRail (v : Vexone) (r : RailId) (f : Rail → Rail) : Vexone :=
  match r with
  | .fb => { v with fb := f v.fb }
  | .ax => { v with ax := f v.ax }

def railOfNum (n : Nat) : RailId := if n = 0 then .fb else .ax

/-- A rail that switches (11 section 11.5). -/
def Rail.switching (r : Rail) : Bool := r.st == .on || r.st == .rampUp || r.st == .rampDown

def Vexone.modSeg (v : Vexone) (s : SegId) (f : Seg → Seg) : Vexone := { v with segs := vmod v.segs s f }
def Vexone.modLane (v : Vexone) (l : LaneId) (f : Lane → Lane) : Vexone := { v with lanes := vmod v.lanes l f }
def Vexone.modMotor (v : Vexone) (n : MotorId) (f : Motor → Motor) : Vexone := { v with motors := vmod v.motors n f }
def Vexone.modFan (v : Vexone) (c : FanId) (f : Fan → Fan) : Vexone := { v with fans := vmod v.fans c f }

/-- The lane of a segment. -/
def laneOf (s : SegId) : LaneId := ⟨s.val / 4, by omega⟩

/-! ## Events (04 R125, R144, R145) -/

/-- A 16-byte payload from (length, value) fields in order, filled with zeros. -/
def payload (fs : List (Nat × Nat)) : List Byte := padTo 16 (fs.flatMap fun f => le f.1 f.2)

/-- An event joins the queue of one master: none where its event ring is disabled (04 R118); the oldest record drops
from a full queue into the EV_OVERFLOW marker, with fault 0x0406 at the drop that opens the marker. -/
def Vexone.queueEvent (v : Vexone) (m : Master) (code : Nat) (frame : BitVec 32) (offset : Nat) (pl : List Byte) : Vexone :=
  if !(v.ringOn m.idx 8) then v
  else
    let s := v.mst m
    let ev : Event := { code := code, seq := s.evSeq, frame := frame, offset := offset, payload := pl }
    match s.events with
    | old :: rest =>
      if s.events.length < 64 then v.modMst m fun x => { x with events := x.events ++ [ev], evSeq := x.evSeq + 1 }
      else
        let mk : Marker :=
          match s.marker with
          | none => { dropped := 1, firstSeq := old.seq, lastSeq := old.seq, frame := frame, offset := offset }
          | some k => { k with dropped := satTo 65535 (k.dropped + 1), lastSeq := old.seq, frame := frame, offset := offset }
        let v := v.modMst m fun x =>
          { x with events := rest ++ [ev], evSeq := x.evSeq + 1, marker := some mk,
                   rings := vmodN x.rings 8 fun r => { r with drops := satTo 65535 (r.drops + 1) } }
        let v := ({ v with dcnt := vcount v.dcnt 7 } : Vexone).heat (ringAddr m.idx 8 + 0x14) 1
        if s.marker.isNone then v.latchRaw 0x0406 (oneHot 16 m.idx.val) else v
    | [] => v.modMst m fun x => { x with events := [ev], evSeq := x.evSeq + 1 }

/-- An event at a given frame and offset: to the owner where there is one, EV_HALYARD (0x0301) and the events of a free
or lapsed Halyard to every enabled event ring (04 R144). -/
def Vexone.emitAt (v : Vexone) (code : Nat) (frame : BitVec 32) (offset : Nat) (pl : List Byte) : Vexone :=
  match v.hal.owner with
  | some m => if code = 0x0301 then masters.foldl (fun v m => v.queueEvent m code frame offset pl) v
      else v.queueEvent m code frame offset pl
  | none => masters.foldl (fun v m => v.queueEvent m code frame offset pl) v

/-- An event stamped with the step's own frame and edge. -/
def Vexone.emit (v : Vexone) (code : Nat) (pl : List Byte) : Vexone := v.emitAt code v.clk.frame v.clk.edge pl

/-! ## Faults with their events (16 R555, R558, R665) -/

/-- Instances latched; the event is recorded where one of them was clear. -/
def Vexone.latchEv (v : Vexone) (c : Nat) (m : BitVec 16) (ev : Nat) (pl : List Byte) : Vexone :=
  let newly := (v.fault c).mask &&& m != m
  let v := v.latchRaw c m
  if newly then v.emit ev pl else v

/-- A fault whose event is EV_FAULT: code, instance, count (16 R558). -/
def Vexone.latchF (v : Vexone) (c i : Nat) : Vexone :=
  v.latchEv c (oneHot 16 i) 0x0001 (payload [(2, c), (2, i), (2, satTo 0xFFFF ((v.fault c).count + 1))])

/-! ## Settings due at the tick (05 R168, R188) -/

/-- The operation at a place. -/
def Vexone.opAt (v : Vexone) (p : Place) : Option Op := v.ops.find? fun o => o.place == p

/-- A setting left for the next tick. -/
def Vexone.pushDue (v : Vexone) (p : Place) (x : Setting) : Vexone :=
  { v with due := v.due ++ [{ place := p, seq := ((v.opAt p).map (·.seq)).getD 0, set := x }] }

/-- The operation of a setting, where its completion has not been written and its place given away. -/
def Vexone.dueOp (v : Vexone) (d : Due) : Option Op := (v.opAt d.place).filter fun o => o.seq == d.seq

/-- The operation at a place changed. -/
def Vexone.modOp (v : Vexone) (p : Place) (f : Op → Op) : Vexone :=
  { v with ops := v.ops.map fun o => if o.place = p then f o else o }

/-! ## Declared pairs (01 R29 to R32) -/

/-- What is pending of a pair. -/
def Vexone.pairPend (v : Vexone) (i : PairId) : PairPend :=
  match v.pairs.find? (fun p => p.id == i) with
  | some p => p
  | none => { id := i, h1 := none, h2 := none, commit := false }

/-- Halves of a pair written: the last value written of each stands (01 R30). -/
def Vexone.pairWrite (v : Vexone) (i : PairId) (h1 h2 : Option Int) : Vexone :=
  let p := v.pairPend i
  let p' : PairPend := { p with h1 := h1.or p.h1, h2 := h2.or p.h2 }
  { v with pairs := v.pairs.filter (fun q => q.id != i) ++ [p'] }

/-- A commit naming a pair: without a half written by the end of the frame it has no effect (01 R29, R31, R48). -/
def Vexone.pairCommit (v : Vexone) (i : PairId) : Vexone :=
  { v with pairs := v.pairs.filter (fun q => q.id != i) ++ [{ v.pairPend i with commit := true }] }

/-- The pairs with a pending half. -/
def Vexone.pairCount (v : Vexone) : Nat := (v.pairs.filter fun p => p.h1.isSome || p.h2.isSome).length

/-- Pending halves discarded by a takeover (cause 0) or an owner loss (cause 1), with one EV_PAIR_DISCARD where there
was one (01 R32). -/
def Vexone.discardPairs (v : Vexone) (cause : Nat) : Vexone :=
  let n := v.pairCount
  let v := { v with pairs := [] }
  if n = 0 then v else v.emit 0x0103 (payload [(2, n), (1, cause)])

/-! ## Completion of operations (04 R124, R135 to R137; 15 R526, R527) -/

/-- An operation whose completion waits in the holding store. -/
def Op.isComplete (o : Op) : Bool :=
  match o.phase with
  | .complete _ => true
  | _ => false

/-- Whether a port reset is in progress on a master's port. -/
def Vexone.inPortReset (v : Vexone) (m : Master) : Bool :=
  match m.port with
  | some p => (v.portOf p).flr || (v.portOf p).perst
  | none => false

/-- The completion of the operation at a place enters the holding store at a CCLK time, the edge after its execution ends. That
of an operation left by a port reset is never written, and its place is freed when the execution ends, where that reset has
ended (04 R155). -/
def Vexone.completeAt (v : Vexone) (p : Place) (status detail : Nat) (frame : BitVec 32) (offset readyAt : Nat)
    (result : List Byte := []) : Vexone :=
  let v := match v.opAt p with
    | some o => if o.orphan && !v.inPortReset o.m then v.leave (readyAt - 1) (.orphan p o.seq) else v
    | none => v
  { v with ops := v.ops.map fun o =>
      if o.place = p then
        { o with
          phase := .complete { status := BitVec.ofNat 8 status, detail := BitVec.ofNat 16 detail, frame := frame, offset := offset }
          readyAt := readyAt
          result := result }
      else o }

/-- The place of an operation that a port reset left is freed (04 R155). -/
def Vexone.freeOrphan (v : Vexone) (p : Place) (seq : Nat) : Vexone :=
  { v with ops := v.ops.filter fun o => !(o.place == p && o.seq == seq && o.orphan && o.isComplete) }

/-- A completion whose execution ends at this step's edge. -/
def Vexone.complete (v : Vexone) (p : Place) (status detail : Nat) (result : List Byte := []) : Vexone :=
  v.completeAt p status detail v.clk.frame v.clk.edge (v.now + 1) result

/-! ## Voided settings (05 R188) -/

/-- The operation of a setting that takes no effect completes with a status where its completion is not yet written (05 R188). -/
def Vexone.cancelOp (v : Vexone) (d : Due) (status : Nat := stCancelled) : Vexone :=
  match v.dueOp d with
  | some o =>
    match o.phase with
    | .complete c =>
      v.modOp d.place fun o => { o with phase := .complete { c with status := BitVec.ofNat 8 status, detail := 0 } }
    | _ => v.complete d.place status 0
  | none => v

/-- Settings voided: those that a test names are dropped and their operations cancelled. Whether a setting was dropped
whose completion had been written is told as well. -/
def Vexone.voidDue (v : Vexone) (test : Setting → Bool) : Vexone × Bool :=
  let gone := v.due.filter fun d => test d.set
  let late := gone.any fun d => (v.dueOp d).isNone
  (gone.foldl (fun v d => v.cancelOp d) { v with due := v.due.filter fun d => !test d.set }, late)

/-- UNFURLs of some segments voided: a setting keeps the segments that are not named, and only one left with none is
cancelled (05 R188; log entry 17). -/
def Vexone.voidUnfurl (v : Vexone) (m : BitVec 16) : Vexone × Bool :=
  let part := v.due.any fun d =>
    match d.set with
    | .unfurl s => s &&& m != 0 && s &&& ~~~m != 0
    | _ => false
  let (v, late) := v.voidDue fun x =>
    match x with
    | .unfurl s => s &&& m != 0 && s &&& ~~~m == 0
    | _ => false
  ({ v with due := v.due.map fun d =>
       match d.set with
       | .unfurl s => { d with set := .unfurl (s &&& ~~~m) }
       | _ => d }, late || part)

/-! ## Rings, credits and places (04 Tables 4-1, 4-7) -/

def Vexone.ring (v : Vexone) (m : Master) (r : Fin 10) : Ring := (v.mst m).rings[r]

def Vexone.modRing (v : Vexone) (m : Master) (r : Fin 10) (f : Ring → Ring) : Vexone :=
  v.modMst m fun x => { x with rings := vmod x.rings r f }

/-- The submission and the completion ring of a class (04 Table 4-1). -/
def sqOf : Cls → Fin 10
  | .u => 0
  | .c => 1
  | .p => 2
  | .b => 3

def cqOf : Cls → Fin 10
  | .u => 4
  | .c => 5
  | .p => 6
  | .b => 7

/-- Every credit held, with its master and class, each beside a place of the holding store: by operations, by descriptors in
the decoder, and by fetches in flight (04 R133, R135). -/
def Vexone.held (v : Vexone) : List (Master × Cls × Pool) :=
  (v.ops.map fun o => (o.m, o.cls, o.pool)) ++
  (masters.flatMap fun m => classes.flatMap fun cl => (v.ring m (sqOf cl)).chain.map fun d => (m, cl, d.pool)) ++
  v.reads.flatMap fun r => match r.kind with
    | .descr m cl _ ps _ => ps.map fun p => (m, cl, p)
    | _ => []

/-- Credits of a pool held (04 R135). -/
def Vexone.poolHeld (v : Vexone) (p : Pool) : Nat := (v.held.filter fun x => x.2.2 == p).length

/-- Places of the holding store that are not free. -/
def Vexone.placesHeld (v : Vexone) : Nat := v.held.length

/-- A place that no operation holds. -/
def Vexone.freePlace (v : Vexone) : Option Place := (List.finRange 256).find? fun p => (v.opAt p).isNone

/-- Something put on a port (log entry 7). -/
def Vexone.put (v : Vexone) (o : OutRec) : Vexone := { v with out := v.out ++ [o] }

/-- The next draw of a free value (log entry 10). -/
def Vexone.draw (v : Vexone) : Vexone := { v with fresh := v.fresh + 1 }

/-! ## Handles (06 section 6.2) and what is kept beside a context -/

def HEntry.empty (h : BitVec 12) : HEntry :=
  { handle := h, tracked := false, slot := none, ctx := none, clean := false, pin := false, gen := 0, loc := 0, pocket := 0, first := 0, hintTo := 0,
    spillTick := 0, freeAt := 0, visitAt := 0, busy := false }

/-- The entry of a handle. -/
def Cx.get (x : Cx) (h : BitVec 12) : HEntry :=
  match x.tab.find? (fun e => e.handle == h) with
  | some e => e
  | none => HEntry.empty h

/-- The entry of a handle changed, the table staying in handle order. -/
def Cx.upd (x : Cx) (h : BitVec 12) (f : HEntry → HEntry) : Cx :=
  let e := f (x.get h)
  { x with tab := insertBy (fun a b => a.handle.toNat < b.handle.toNat) e (x.tab.filter fun t => t.handle != h) }

def HEntry.resident (e : HEntry) : Bool := e.ctx.isSome

/-- The context of a resident handle. -/
def Vexone.ctxOf (v : Vexone) (h : BitVec 12) : Option Ctx := (v.cx.get h).ctx

def Vexone.modH (v : Vexone) (h : BitVec 12) (f : HEntry → HEntry) : Vexone := { v with cx := v.cx.upd h f }

/-- The resident context of a handle changed; it is then no longer clean. -/
def Vexone.modCtx (v : Vexone) (h : BitVec 12) (f : Ctx → Ctx) : Vexone :=
  v.modH h fun e => { e with ctx := e.ctx.map f, clean := false }

def Vexone.modCx (v : Vexone) (f : Cx → Cx) : Vexone := { v with cx := f v.cx }

/-- Both copies of a directive have ended by a CCLK time, or have lapsed (08 R299, R304). -/
def OutDir.endedBy (d : OutDir) (t : Nat) : Bool :=
  d.lapsed || decide (d.bits.length ≤ d.sentA ∧ d.bits.length ≤ d.sentB ∧ d.endA ≤ t ∧ d.endB ≤ t)

/-- A copy in progress, begun and not ended, lapses with its directive (08 R304, R309). -/
def OutDir.lapse (d : OutDir) : OutDir :=
  if (0 < d.sentA ∧ d.sentA < d.bits.length) ∨ (0 < d.sentB ∧ d.sentB < d.bits.length) then { d with lapsed := true } else d

/-- The record beside a context, where there is one, changed. -/
def Vexone.modLoop (v : Vexone) (h : BitVec 12) (f : LoopRec → LoopRec) : Vexone :=
  { v with cx := { v.cx with loops := v.cx.loops.map fun l => if l.handle = h then f l else l } }

end Sys2Proof.Machine
end

