-- ==== Sys2Proof/Machine/Lalvo.lean ====
section
/-! DEFINITION. The LAV-12 pass die: its NVM words and their relations (10 section 10.8), the operating point (09 R317), the
charge profile's parameters, switches and power-good, the gauge (09 section 9.9), the report (08 Table 8-4), what it
forgets, and the settings that a commit or an apply brings into force. -/

namespace Sys2Proof.Machine

open Sys2Proof

/-! ## The NVM (10 R362 to R366) -/

/-- The CRC-16 of words 0 to 62, each low byte first. -/
def LavNvm.crc (n : LavNvm) : BitVec 16 :=
  BitVec.ofNat 16 (crc16 ((n.words.toList.take 63).flatMap fun w => le 2 w.toNat))

/-- A word written and word 63 rewritten. -/
def LavNvm.write (n : LavNvm) (k : Nat) (w : BitVec 16) : LavNvm :=
  let n' : LavNvm := { n with words := vmodN n.words k fun _ => w }
  { n' with words := vmodN n'.words 63 fun _ => n'.crc }

/-- A word as the die runs on it: the factory value while NVMF is set (10 R366). -/
def Lalvo.nv (l : Lalvo) (k : Nat) : Nat :=
  ((if l.nvmf then LavNvm.factoryWords else l.nvm.words).toList.getD k 0).toNat

/-- Fields of words (10 Table 10-6). -/
def Lalvo.passId (l : Lalvo) : Nat := l.nv 1 + 2 ^ 16 * l.nv 2
def Lalvo.cap (l : Lalvo) : Nat := l.nv 3 + 2 ^ 16 * bitsOf (l.nv 4) 1 0
def Lalvo.agedWord (l : Lalvo) : Bool := bitsOf (l.nv 12) 0 0 = 1
def Lalvo.keyPresent (l : Lalvo) : Bool := !l.nvmf && bitsOf (l.nv 24) 8 8 = 1
def Lalvo.key (l : Lalvo) : List Byte := (List.range 8).flatMap fun k => le 2 (l.nv (16 + k))
def vchgMv (code : Nat) : Nat := 3800 + 2 * code
def pgMv (code : Nat) : Nat := 2600 + 50 * code
def Lalvo.ichgMax (l : Lalvo) : Nat := min 400 (bitsOf (l.nv 48) 8 0)
def Lalvo.vchgWord (l : Lalvo) : Nat := vchgMv (bitsOf (l.nv 49) 7 0)
def Lalvo.vchgMax (l : Lalvo) : Nat := min 4200 l.vchgWord
def Lalvo.ovMv (l : Lalvo) : Nat := min 4350 (4250 + 10 * bitsOf (l.nv 50) 3 0)
def Lalvo.vcutMv (l : Lalvo) : Nat := 2500 + 50 * bitsOf (l.nv 51) 3 0
def Lalvo.docUa (l : Lalvo) : Nat := 20000 + 5000 * bitsOf (l.nv 52) 2 0
def Lalvo.chgWin (l : Lalvo) : Int × Int := (signed 8 (bitsOf (l.nv 53) 7 0), signed 8 (bitsOf (l.nv 53) 15 8))
def Lalvo.disWin (l : Lalvo) : Int × Int := (signed 8 (bitsOf (l.nv 54) 7 0), signed 8 (bitsOf (l.nv 54) 15 8))
def Lalvo.rAge (l : Lalvo) : Nat := 10 * bitsOf (l.nv 55) 7 0
def Lalvo.vholdMv (l : Lalvo) : Nat := 2800 + 50 * bitsOf (l.nv 9) 3 0

/-- A valid PG pair (10 R355). -/
def pgValid (hi lo vhold vchgMax : Nat) : Bool :=
  decide (hi ≤ 28 ∧ lo + 6 ≤ hi ∧ vhold + 100 ≤ pgMv lo ∧ pgMv hi + 100 ≤ vchgMax)

/-- The relations among the words (10 R364). -/
def Lalvo.relations (l : Lalvo) : Bool :=
  decide (l.vchgWord + 50 ≤ l.ovMv ∧ l.vcutMv + 200 ≤ l.vholdMv ∧ bitsOf (l.nv 6) 8 0 ≤ bitsOf (l.nv 48) 8 0 ∧
    bitsOf (l.nv 11) 8 0 ≤ bitsOf (l.nv 48) 8 0 ∧ bitsOf (l.nv 7) 7 0 ≤ bitsOf (l.nv 49) 7 0) &&
  pgValid (bitsOf (l.nv 8) 9 5) (bitsOf (l.nv 8) 4 0) l.vholdMv l.vchgWord

/-- Whether a field of a word lies outside its range in 10 Table 10-6 or 09 Table 9-9; the reserved words hold zero. -/
def nvRangeBad (k : Nat) (w : BitVec 16) : Bool :=
  let n := w.toNat
  let lo := signed 8 (bitsOf n 7 0)
  let hi := signed 8 (bitsOf n 15 8)
  match k with
  | 9 => decide (12 < bitsOf n 3 0)
  | 50 => decide (10 < bitsOf n 3 0)
  | 51 => decide (8 < bitsOf n 3 0)
  | 52 => decide (4 < bitsOf n 2 0)
  | 53 => !decide (-10 ≤ lo ∧ lo ≤ 10 ∧ 40 ≤ hi ∧ hi ≤ 60)
  | 54 => !decide (-30 ≤ lo ∧ lo ≤ -10 ∧ 55 ≤ hi ∧ hi ≤ 70)
  | 55 => decide (bitsOf n 7 0 < 2)
  | _ => (decide (13 ≤ k ∧ k ≤ 15) || decide (40 ≤ k ∧ k ≤ 47) || k == 62) && n != 0

/-! ## Time at the pass (log entry 113) -/

/-- The time to the next sample: 250 us in Active, 64 ms outside (09 section 9.8; 10 R351). -/
def Lalvo.grain (l : Lalvo) : Nat := if l.mode = .active then 250 else 64000

/-- A time of d us from t ends before the next sample. -/
def Lalvo.past (l : Lalvo) (t d : Nat) : Bool := decide (t + d < l.us + l.grain)

/-- A time that is counted while the die is in a field ends before the next sample. -/
def Lalvo.counted (l : Lalvo) (n d : Nat) : Bool := decide (d < n + l.grain)

/-! ## The operating point (09 R317, R322) -/

/-- VRECT_min(N), rounded up to the next 8 mV. -/
def vrectMin (vsys n : Nat) : Nat := 8 * ceilDiv (vsys + 100) (8 * n)

/-- The effective VRECT target. -/
def Lalvo.effTarget (l : Lalvo) : Nat := max l.set.vtgt (vrectMin l.vsys 8)

/-- The ratio run: the smallest that is no smaller than the directed one and can charge. -/
def Lalvo.ratioRun (l : Lalvo) : Nat :=
  (((List.range 8).map (· + 1)).find? fun n =>
    decide (l.set.dirRatio.getD 1 ≤ n ∧ vrectMin l.vsys n ≤ l.effTarget)).getD 8

/-- Target and ratio recomputed. -/
def Lalvo.retarget (l : Lalvo) : Lalvo := { l with set := { l.set with ratio := l.ratioRun } }

/-- The tracker runs outside remote mode and under policy 3 (09 R321). -/
def Lalvo.tracks (l : Lalvo) : Bool := !l.link.remote || l.pol == 3

/-- The tracker starts from the TUNE and VTGT in force. -/
def Lalvo.startTracker (l : Lalvo) : Lalvo := { l with trk := LavTracker.reset }

/-- Remote mode ends: the tracker starts, and the directed ratio lapses (09 R322). -/
def Lalvo.leaveRemote (l : Lalvo) : Lalvo :=
  ({ l with link := { l.link with remote := false }, set := { l.set with dirRatio := none } } : Lalvo).startTracker.retarget

/-! ## The charge profile (09 section 9.7, R330) -/

/-- ICHG (5 uA codes) and VCHG (mV) with the limits of an aged cell. -/
def Lalvo.effIchg (l : Lalvo) : Nat := if l.aged then max 1 (l.set.ichg / 4) else l.set.ichg
def Lalvo.effVchg (l : Lalvo) : Nat := if l.aged then min l.set.vchg 4000 else l.set.vchg

/-- I_PRE and ITERM: a tenth of ICHG, at least 5 uA. -/
def Lalvo.tenth (l : Lalvo) : Nat := max 1 (l.effIchg / 10)

/-- The phase that VCS selects. -/
def Lalvo.phaseFor (l : Lalvo) (vcs : Nat) : LavCharge :=
  if vcs < 2000 then .trickle else if vcs < 3000 then .precharge else if vcs < l.effVchg then .cc else .cv

/-- A protection holds the cell current at 0. -/
def LavProt.noCharge (p : LavProt) : Bool := p.ov || p.ocPause || p.ocStop || p.chgT

/-- The charge profile runs: neither policy hold nor a protection holds the cell current at 0 (09 Table 9-5, Table 9-9,
R341). While it does not run, no phase changes and no time of a phase counts (log entry 101). -/
def Lalvo.charging (l : Lalvo) : Bool := l.pol != 0 && !l.prot.noCharge

/-- The cell current limit in force, 5 uA codes (09 Table 9-7, Table 9-5, R341); 0 in the first 2 ms of an impedance check
(09 R329). -/
def Lalvo.currentLimit (l : Lalvo) : Nat :=
  if !l.charging || l.imp.any (fun c => decide (c.n < 8)) then 0
  else
    match l.chg with
    | .trickle => 1
    | .precharge => l.tenth
    | .cc | .cv => l.effIchg
    | _ => 0

/-! ## The gauge (09 section 9.9) -/

/-- 1e-6 of 0.1 uAh. -/
def gaugeUnit : Nat := 1000000

/-- The charge in 1e-6 units. -/
def Lalvo.charge (l : Lalvo) : Int := (l.qg * gaugeUnit : Nat) + l.qgFrac

/-- The charge set, clamped to 0 to CAP; not kept with CAP 0. -/
def Lalvo.setCharge (l : Lalvo) (q : Int) : Lalvo :=
  if l.cap = 0 then l
  else
    let q := clampI 0 (l.cap * gaugeUnit : Nat) q
    { l with qg := (q / gaugeUnit).toNat, qgFrac := q % gaugeUnit }

/-- Charge integrated or subtracted. -/
def Lalvo.addCharge (l : Lalvo) (dq : Int) : Lalvo := l.setCharge (l.charge + dq)

/-- The rows of 09 Table 9-10: OCV in mV at each 10 percent. -/
def ocvTable : List Nat := [3000, 3550, 3680, 3750, 3800, 3850, 3910, 3970, 4030, 4100, 4200]

/-- CAP x SOC(v) in 1e-6 units, rounded down; v in 1e-4 mV, linear between rows. -/
def socCharge (cap : Nat) (v : Int) : Nat :=
  let rows := (ocvTable.zip (ocvTable.drop 1)).mapIdx fun k r => (k, r.1, r.2)
  if v < 30000000 then 0
  else
    match rows.find? fun r => decide (v < (10000 * r.2.2 : Nat)) with
    | some (k, a, b) =>
      cap * gaugeUnit * (10 * k * (10000 * (b - a)) + 10 * (v - (10000 * a : Nat)).toNat) / (100 * (10000 * (b - a)))
    | none => cap * gaugeUnit

/-- Q_v of a VCS without cell current. -/
def Lalvo.restCharge (l : Lalvo) (vcs : Nat) : Int := socCharge l.cap (10000 * vcs : Nat)

/-- Q_v (09 R334): V_oc = VCS - I_cell x R_cell. -/
def Lalvo.voltCharge (l : Lalvo) : Int :=
  socCharge l.cap ((10000 * l.vcs : Nat) - l.icell * ((l.rcell.getD 0 : Nat) : Int))

/-- DISAG set or cleared (09 R334). -/
def Lalvo.compare (l : Lalvo) : Lalvo :=
  if l.cap = 0 then l
  else
    let d := (l.charge - l.voltCharge).natAbs
    if 15 * l.cap * gaugeUnit < 100 * d then { l with disag := true }
    else if 100 * d ≤ 10 * l.cap * gaugeUnit then { l with disag := false }
    else l

/-- An anchor (09 R335). -/
def Lalvo.anchor (l : Lalvo) (q : Int) : Lalvo := { (l.setCharge q) with disag := false }

/-- GAUGE of a report (09 R332). -/
def Lalvo.gauge (l : Lalvo) : Nat :=
  if l.cap = 0 then 255 else roundDiv (200 * l.charge.toNat) (l.cap * gaugeUnit)

/-! ## Switches and power-good (10 sections 10.4, 10.5) -/

def Lalvo.vloadMv (l : Lalvo) : Nat := if l.set.vloadHigh then 3000 else 1800

/-- A protection holds the load switch open. -/
def LavProt.noLoad (p : LavProt) : Bool := p.docOpen || p.docStop || p.short || p.disT

/-- Whether the load switch is closed (10 R356). -/
def Lalvo.loadWanted (l : Lalvo) : Bool :=
  !l.prot.noLoad &&
  match l.mode with
  | .active => decide (l.vloadMv + 200 ≤ l.vsys)
  | .supervise => true
  | _ => false

/-- The set-point of the system node: with the discharge switch open in Active the converter alone holds it, at the higher
of 2.20 V and VLOAD + 0.30 V (10 R357). -/
def Lalvo.nodeTarget (l : Lalvo) : Nat :=
  if l.mode = .active && !l.disSw then max 2200 (l.vloadMv + 300) else 0

/-- The load switch and the set-point of the system node as their conditions stand; VLOAD falls out of regulation with its
switch. -/
def Lalvo.settle (l : Lalvo) : Lalvo :=
  { l with loadSw := l.loadWanted, inReg := l.inReg && l.loadWanted, nodeSet := l.nodeTarget }

/-- The PG pin (10 R354). -/
def Lalvo.pgPin (l : Lalvo) : Bool := l.pg && l.loadSw && l.inReg

/-- Load modulation by TXM: ignored while VLOAD is off (10 R359). -/
def Lalvo.modOn (l : Lalvo) : Bool := l.txm && l.loadSw

/-- RXD held low: while VLOAD is off, and while the envelope lies below 50 percent (10 R358). -/
def Lalvo.rxdLow (l : Lalvo) : Bool := l.envLow || !l.loadSw

/-- The PG decision judged at a sample (10 R353). -/
def Lalvo.judgePg (l : Lalvo) (vcs : Nat) : Lalvo :=
  if pgMv l.set.pgHi ≤ vcs then { l with pg := true }
  else if vcs < pgMv l.set.pgLo then { l with pg := false }
  else l

/-! ## Reports (08 R294; 09 R323, R331) -/

/-- PROT (09 R331). -/
def Lalvo.protActive (l : Lalvo) : Bool :=
  let p := l.prot
  p.ov || p.ocPause || p.ocStop || p.docOpen || p.docStop || p.short || p.chgT || p.disT || l.chg == .failed || l.chg == .timedOut

/-- A voltage code of 8 mV steps above a base, to the nearest, saturating. -/
def code8 (base mv : Nat) : Nat := min 255 (roundDiv (mv - base) 8)

/-- The PIN code nearest to 16 log2 of the power in uW, 0 below 1 uW (08 Table 8-4). -/
def pinCode (uW : Nat) : Nat := if uW = 0 then 0 else min 255 ((Nat.log2 (uW ^ 32) + 1) / 2)

/-- Bits [15:8] of a report or a hello. -/
def Lalvo.reportFlags (l : Lalvo) (bank : Nat) (hello : Bool) : Nat :=
  let staged := l.link.stIchg.isSome || l.link.stVchg.isSome || l.link.stPg.isSome
  pack [(bit staged, 7), (bit l.link.macf, 6), (bit (l.protActive || l.link.commitBad), 5), (bit l.link.cold, 4), (bank, 1), (bit hello, 0)]

/-- Bits [63:8] of a report of the values last measured. -/
def Lalvo.reportBody (l : Lalvo) : Nat :=
  pack [(code8 0 l.vrect, 48), (code8 2500 l.vcs, 40), (l.gauge, 32), (pinCode l.pin, 24), (l.set.tune, 18), (l.set.ratio - 1, 15),
        (l.link.lastSeq.toNat, 11), (bit l.pgPin, 10), (bit l.disag, 9), (bit l.tracks, 8), (l.reportFlags l.link.bank.toNat false, 0)]

/-- Bits [63:8] of a hello. -/
def Lalvo.helloBody (l : Lalvo) : Nat :=
  pack [(l.passId, 24), (l.link.nonce.toNat, 8), (l.reportFlags 0 true, 0)]

/-- A report string with its CRC. -/
def reportBits (body : Nat) : List Bool :=
  let bs := natBits 56 body
  bs ++ natBits 8 (crc8 bs)

/-- The cell current as measured: 2 uA or more ends a rest (09 R335, R342). -/
def Lalvo.current (l : Lalvo) (i : Int) : Lalvo :=
  { l with icell := i, restAt := if 20 ≤ i.natAbs then l.us else l.restAt, rested := l.rested && decide (i.natAbs < 20) }

/-- The values of a sample taken over; the clamp holds VRECT at 2.40 V (09 R315). -/
def Lalvo.measure (l : Lalvo) (s : LavSample) : Lalvo :=
  { l.current s.icell with vcs := s.vcs, vrect := min 2400 s.vrect, vsys := s.vsys, vload := s.vload, pin := s.pin }

/-- The next string to send: a report of a fresh measurement, or a hello with a new NONCE; MACF and a rejected commit are
told once. -/
def Lalvo.nextString (l : Lalvo) (hello : Bool) (s : LavSample) : Lalvo :=
  let l := (l.measure s).compare
  let l := if hello then { l with link := { l.link with nonce := Config.nonce l.fresh }, fresh := l.fresh + 1 } else l
  let bits := reportBits (if hello then l.helloBody else l.reportBody)
  { l with link := { l.link with report := bits, macf := false, commitBad := false } }

/-! ## Settings brought into force (08 R296; 09 R326; 10 R364, R369) -/

/-- The charge phase becomes done: SUP_ARM under policy 2 (10 R349). -/
def Lalvo.chargeDone (l : Lalvo) : Lalvo := { l with chg := .done, supArm := l.supArm || l.pol == 2 }

/-- A new VCHG below VCS ends charging; the end of CV is the full anchor (09 R326, R335). Failed and timed out last until
the next new field (09 Table 9-7). -/
def Lalvo.afterVchg (l : Lalvo) : Lalvo :=
  match l.chg with
  | .failed | .timedOut | .done => l
  | .cv => if l.effVchg < l.vcs then let l' := l.chargeDone; l'.anchor (l'.restCharge l'.effVchg) else l
  | _ => if l.effVchg < l.vcs then l.chargeDone else l

/-- ICHG and VCHG put in force within the fused limits (10 R369). -/
def Lalvo.setCharging (l : Lalvo) (ichg vchg : Nat) : Lalvo :=
  let l' : Lalvo := { l with set := { l.set with ichg := max 1 (min ichg l.ichgMax), vchg := min vchg l.vchgMax } }
  if l'.set.vchg = l.set.vchg then l' else l'.afterVchg

/-- Words 5 to 11 of the words w loaded into the settings in force (10 R364, R367); w is the die itself, or the die without
its NVMF where an apply loads the words as written. -/
def Lalvo.loadFrom (l w : Lalvo) : Lalvo :=
  let set : LavSet :=
    { l.set with
      vloadHigh := bitsOf (w.nv 5) 15 15 = 1
      tuneStart := bitsOf (w.nv 5) 5 0
      pgHi := bitsOf (w.nv 8) 9 5
      pgLo := bitsOf (w.nv 8) 4 0
      vhold := w.vholdMv
      supTime := bitsOf (w.nv 10) 7 0
      benign := bitsOf (w.nv 11) 8 0 }
  ({ l with set := set } : Lalvo).setCharging (bitsOf (w.nv 6) 8 0) (vchgMv (bitsOf (w.nv 7) 7 0))

def Lalvo.loadWords (l : Lalvo) : Lalvo := l.loadFrom l

/-! ## What the die forgets (08 R274; 09 R345; 10 R347, R376) -/

/-- The state of the field discarded; what has been sent stands. -/
def LavLink.newField (k : LavLink) : LavLink := { LavLink.reset with sentBits := k.sentBits }

/-- A new field: link, policy, the counts that last one field, and remote mode end. -/
def Lalvo.newField (l : Lalvo) : Lalvo :=
  let p := l.prot
  let prot : LavProt :=
    { p with ocPause := false, ocTrips := 0, ocStop := false, short := false, docOpen := p.docOpen && !p.docStop
             docTrips := if p.docStop then 0 else p.docTrips, docWas := none, docStop := false }
  let chg := if l.chg = .failed ∨ l.chg = .timedOut then (if l.vcs < 2000 then .trickle else .precharge) else l.chg
  ({ l with link := l.link.newField, pol := 1, prot := prot, chg := chg, trickleUs := 0, preUs := 0 } : Lalvo).leaveRemote.settle

/-- Everything except the NVM is lost; a word being programmed is left as it may be. -/
def Lalvo.die (l : Lalvo) : Lalvo :=
  let nvm : LavNvm := if l.nvBusy then { l.nvm with words := vmodN l.nvm.words l.nvAddr.toNat fun _ => Config.nvmWord l.fresh } else l.nvm
  { Lalvo.reset with nvm := nvm, txm := l.txm, envLow := l.envLow, fresh := l.fresh + 1
                     link := { LavLink.reset with sentBits := l.link.sentBits } }

end Sys2Proof.Machine
end

