-- ==== Sys2Proof/Machine/LavLink.lean ====
section
/-! DEFINITION. The sideband at the pass (08 sections 8.5 to 8.9; 10 section 10.9): fragments, copies, the judgement of a
directive, its uplink, and the effect of each directive. -/

namespace Sys2Proof.Machine

open Sys2Proof

/-! ## Copies (08 R286 to R292) -/

/-- The stream of a COPY and TAG. -/
def LavLink.stream (k : LavLink) (b : Bool) (t : BitVec 4) : CopyRx :=
  match k.streams.find? fun s => s.copyB == b && s.tag == t with
  | some s => s
  | none => { copyB := b, tag := t, bits := none, lost := false, since := 0 }

def LavLink.setStream (k : LavLink) (x : CopyRx) : LavLink :=
  { k with streams := k.streams.filter (fun s => !(s.copyB == x.copyB && s.tag == x.tag)) ++ [x] }

/-- A directive accepted at a time (08 R298): it is the last SEQ, restarts the count of remote mode (08 R295), and waits to
act. One that needs authentication has been verified, and counts (08 R292). An ASSIGN brings the pass's bank, and from then
every directive of another bank is discarded (08 R274, R306). -/
def LavLink.accept (k : LavLink) (us : Nat) (d : Directive) : LavLink :=
  if (k.anySeq && k.lastSeq == d.seq) || (k.hasBank && k.bank != d.bank) then k
  else
    let k : LavLink :=
      { k with lastSeq := d.seq, anySeq := true, judged := k.judged ++ [d], acnt := if d.auth then k.acnt + 1 else k.acnt
               remoteAt := us }
    if d.op = 0x01 then { k with hasBank := true, bank := d.bank } else k

/-- A held copy judged: accepted as the one good copy. -/
def LavLink.judgeHeld (us : Nat) (k : LavLink) (h : Held) : LavLink :=
  ({ k with held := k.held.filter fun x => x != h } : LavLink).accept us h.d

/-- The copy stream of a COPY and TAG loses a copy or begins another: what is held from the other stream is judged (08 R298). -/
def LavLink.streamMoves (k : LavLink) (us : Nat) (b : Bool) (t : BitVec 4) : LavLink :=
  (k.held.filter fun h => h.copyB != b && h.d.tag == t).foldl (LavLink.judgeHeld us) k

/-- A copy discarded. -/
def LavLink.loseCopy (k : LavLink) (us : Nat) (b : Bool) (t : BitVec 4) : LavLink :=
  (k.setStream { copyB := b, tag := t, bits := none, lost := true, since := us }).streamMoves us b t

/-- The fields of a directive's 40 bits. -/
def directiveOf (tag : BitVec 4) (w : Nat) : Directive :=
  { tag := tag, handle := BitVec.ofNat 12 (bitsOf w 39 28), bank := BitVec.ofNat 3 (bitsOf w 27 25)
    seq := BitVec.ofNat 4 (bitsOf w 24 21), op := BitVec.ofNat 6 (bitsOf w 20 15), arg := BitVec.ofNat 14 (bitsOf w 14 1)
    auth := bitsOf w 0 0 = 1 }

def Directive.a (d : Directive) (hi lo : Nat) : Nat := bitsOf d.arg.toNat hi lo

/-- A directive meant for this pass: a BEACON while it holds no handle, an ASSIGN of its PASS_ID from its bank or before it
has accepted one, any other of the catalogue under its handle and its bank (08 R273, R274, R295, R306). -/
def Lalvo.meant (l : Lalvo) (d : Directive) : Bool :=
  let k := l.link
  if d.op = 0x3F then !k.hasHandle
  else if d.op = 0x01 then d.a 9 0 == l.passId % 1024 && (!k.hasBank || d.bank == k.bank)
  else decide (0x02 ≤ d.op.toNat ∧ d.op.toNat ≤ 0x0A) && k.hasHandle && d.handle == k.handle && d.bank == k.bank

/-- A directive that needs a MAC (10 Table 10-7). -/
def Lalvo.needsMac (l : Lalvo) (d : Directive) : Bool :=
  d.op == 0x05 || d.op == 0x06 || (d.op == 0x04 && decide (l.set.benign < d.a 8 0))

/-- What authentication says of a copy (08 R292, 10 R368): good, or discarded with MACF; a MAC that fails counts. -/
def Lalvo.authentic (l : Lalvo) (d : Directive) (w crc mac : Nat) : Bool × Lalvo :=
  let macf : Lalvo := { l with link := { l.link with macf := true } }
  if d.auth then
    if !l.keyPresent || decide (4 ≤ l.link.macFails) then (false, macf)
    else if directiveMac l.key l.passId l.link.nonce.toNat l.link.acnt.toNat w crc = mac then
      (true, { l with link := { l.link with macFails := 0 } })
    else (false, { macf with link := { macf.link with macFails := l.link.macFails + 1 } })
  else if l.needsMac d then (false, macf)
  else (true, l)

/-- A good copy of a directive meant for the pass: a BEACON acts on each, a repeat of the last SEQ has no effect, the second
copy is compared with the first, a first copy is held unless the other stream has lost its own (08 R273, R298). -/
def LavLink.goodCopy (k : LavLink) (us : Nat) (d : Directive) (b : Bool) : LavLink :=
  if d.op = 0x3F then { k with judged := k.judged ++ [d] }
  else if k.anySeq && k.lastSeq == d.seq then k
  else
    match k.held.find? fun h => h.copyB != b && h.d.seq == d.seq && h.d.handle == d.handle with
    | some h => if h.d = d then k.judgeHeld us h else { k with held := k.held.filter fun x => x != h }
    | none =>
      let h : Held := { d := d, copyB := b, since := us }
      let k := if k.held.any (fun x => x.d == d && x.copyB == b) then k else { k with held := k.held ++ [h] }
      if (k.stream (!b) d.tag).lost then (k.held.filter fun x => x.d == d).foldl (LavLink.judgeHeld us) k else k

/-- A copy received to its end. -/
def Lalvo.endCopy (l : Lalvo) (b : Bool) (t : BitVec 4) (bits : List Bool) : Lalvo :=
  let w := bitsNat (bits.take 40)
  let crc := bitsNat ((bits.drop 40).take 8)
  let d := directiveOf t w
  let lose := fun (l : Lalvo) => { l with link := l.link.loseCopy l.us b t }
  let close := fun (l : Lalvo) =>
    { l with link := l.link.setStream { copyB := b, tag := t, bits := none, lost := false, since := l.us } }
  if crc8 (bits.take 40) ≠ crc then lose l
  else if !l.meant d then close l
  else if l.link.anySeq && l.link.lastSeq == d.seq && d.op != 0x3F then close l
  else
    match l.authentic d w crc (bitsNat (bits.drop 48)) with
    | (true, l) => let l := close l; { l with link := l.link.goodCopy l.us d b }
    | (false, l) => lose l

/-- The length of a copy once its AUTH bit is in (08 R290). -/
def copyDone (bits : List Bool) : Bool :=
  decide (40 ≤ bits.length) && bits.length == (if bits.getD 39 false then 80 else 48)

/-- One data cell (08 R285, R288): SY discards the copy in progress, ID carries nothing. -/
def Lalvo.cell (l : Lalvo) (b : Bool) (t : BitVec 4) (x : SbCell) : Lalvo :=
  match (l.link.stream b t).bits with
  | none => l
  | some bits =>
    match x with
    | .sy => { l with link := l.link.loseCopy l.us b t }
    | .idle => l
    | .zero | .one =>
      let bits := bits ++ [x == .one]
      if copyDone bits then l.endCopy b t bits
      else
        let x := l.link.stream b t
        { l with link := l.link.setStream { x with copyB := b, tag := t, bits := some bits, since := l.us } }

/-- A start marker: a copy in progress is discarded, and another begins. -/
def LavLink.beginCopy (k : LavLink) (us : Nat) (b : Bool) (t : BitVec 4) : LavLink :=
  (k.streamMoves us b t).setStream { copyB := b, tag := t, bits := some [], lost := false, since := us }

/-! ## The uplink (08 R289; 10 R374): nothing is sent while TXM modulates (10 R359) -/

/-- One bit of the string in progress; a new string begins where the last has ended, with the next of the fragment's fresh
measurements, and a hello ends for good. -/
def Lalvo.uplinkBit (l : Lalvo) (hello : Bool) (xs : List LavSample) : Lalvo × List LavSample :=
  if hello && l.link.helloTag.isNone then (l, xs)
  else
    let (l, xs) :=
      match l.link.report, xs with
      | [], x :: r => (l.nextString hello x, r)
      | _, _ => (l, xs)
    match l.link.report with
    | x :: r =>
      ({ l with link := { l.link with
          report := r
          sentBits := if l.modOn then l.link.sentBits else l.link.sentBits ++ [x]
          helloTag := if hello && r.isEmpty then none else l.link.helloTag } }, xs)
    | [] => (l, xs)

/-- The reference bits of a fragment's first data cell. -/
def Lalvo.referenceBits (l : Lalvo) : Lalvo :=
  if l.modOn then l else { l with link := { l.link with sentBits := l.link.sentBits ++ [false, false] } }

def Lalvo.uplinkBits (l : Lalvo) (hello : Bool) (xs : List LavSample) : Nat → Lalvo
  | 0 => l
  | k + 1 => let r := l.uplinkBit hello xs; r.1.uplinkBits hello r.2 k

/-- The uplink of a fragment with n data cells: of a tagged pass under its tag, of a hello under the beacon's tag. -/
def Lalvo.uplink (l : Lalvo) (t : BitVec 4) (n : Nat) (xs : List LavSample) : Lalvo :=
  let hello := l.link.helloTag == some t
  if n = 0 || !(hello || (l.link.tagged && l.link.tag == t)) then l
  else l.referenceBits.uplinkBits hello xs (2 * (n - 1))

/-- A data cell's bit; SY and ID carry none (08 R285). -/
def SbCell.bit? : SbCell → Option Bool
  | .zero => some false
  | .one => some true
  | _ => none

/-- A fragment as the pass reads it from its cells (08 R286): whether it begins a copy, COPY, TAG, and its data cells; none
where the markers, COPY or TAG do not read so. -/
def readFragment (cells : List SbCell) : Option (Bool × Bool × BitVec 4 × List SbCell) :=
  let body := fun (start : Bool) (cs : List SbCell) =>
    match (cs.take 5).mapM SbCell.bit? with
    | some [c, a, b, d, e] => some (start, c, BitVec.ofNat 4 (bitsNat [a, b, d, e]), cs.drop 5)
    | _ => none
  match cells with
  | .sy :: .sy :: cs => body true cs
  | .sy :: cs => body false cs
  | _ => none

/-- FRAGMENT (08 R286 to R289): its uplink belongs to the pass as it stands when the fragment begins. A report string that
begins in it takes a fresh measurement, of which there are two (09 R323): a fragment carries at most 68 bits of strings of
64. -/
def execFragment (cells : List SbCell) (xs : Vector LavSample 2) (s : State) : Host.Outcome State Fault Refusal :=
  onLav s fun l =>
    match l.mode, readFragment cells with
    | .active, some (start, copyB, tag, data) =>
      let l := l.uplink tag data.length xs.toList
      let k := l.link
      let k := if start then k.beginCopy l.us copyB tag
        else let x := k.stream copyB tag; if x.bits.isSome then k.setStream { x with since := l.us } else k
      data.foldl (fun l c => l.cell copyB tag c) { l with link := k }
    | _, _ => l

/-- 16 frames' worth of carrier periods, in us (08 R288, R298), and 256 (08 R295). -/
def frames16Us : Nat := 16000
def frames256Us : Nat := 256000

/-- COPY_TIMEOUT (08 R288): a copy in progress without a fragment for 216,960 carrier periods. -/
def execCopyTimeout (copyB : Bool) (tag : BitVec 4) (s : State) : Host.Outcome State Fault Refusal :=
  onLav s fun l =>
    let x := l.link.stream copyB tag
    if x.bits.isSome && l.past x.since frames16Us then { l with link := l.link.loseCopy l.us copyB tag } else l

/-- DIRECTIVE_JUDGE_TIMEOUT (08 R298): the directive held longest, 16 frames after its copy. -/
def execDirectiveJudgeTimeout (s : State) : Host.Outcome State Fault Refusal :=
  onLav s fun l =>
    match l.link.held with
    | h :: _ => if l.past h.since frames16Us then { l with link := l.link.judgeHeld l.us h } else l
    | [] => l

/-! ## Directives (08 Table 8-5) -/

/-- The directive at the head of those judged, where it has an opcode, acts. -/
def Lalvo.take (l : Lalvo) (op : Nat) (f : Lalvo → Directive → Lalvo) : Lalvo :=
  match l.link.judged with
  | d :: r => if d.op.toNat = op then f { l with link := { l.link with judged := r } } d else l
  | [] => l

/-- A directive in force puts the pass into remote mode (08 R295). -/
def Lalvo.goRemote (l : Lalvo) : Lalvo := { l with link := { l.link with remote := true } }

/-- ASSIGN: handle and tag taken, the bank with its acceptance (LavLink.accept); ACNT starts at 0 (08 R273, R292). -/
def execAssign (s : State) : Host.Outcome State Fault Refusal :=
  onLav s fun l => l.take 0x01 fun l d =>
    ({ l with link := { l.link with handle := d.handle, tag := BitVec.ofNat 4 (d.a 13 10), hasHandle := true
                                    tagged := true, acnt := 0, helloTag := none, report := [] } } : Lalvo).goRemote

/-- OP_SET (09 R322). -/
def execOpSet (s : State) : Host.Outcome State Fault Refusal :=
  onLav s fun l => l.take 0x02 fun l d =>
    ({ l with set := { l.set with tune := d.a 13 8, dirRatio := some (d.a 7 5 + 1) } } : Lalvo).retarget.goRemote

/-- VTGT_SET: a code outside 25 to 250 is clipped (09 R317). -/
def execVtgtSet (s : State) : Host.Outcome State Fault Refusal :=
  onLav s fun l => l.take 0x03 fun l d =>
    ({ l with set := { l.set with vtgt := 8 * max 25 (min 250 (d.a 7 0)) } } : Lalvo).retarget.goRemote

/-- ICHG_STAGE. -/
def execIchgStage (s : State) : Host.Outcome State Fault Refusal :=
  onLav s fun l => l.take 0x04 fun l d =>
    ({ l with link := { l.link with stIchg := some (d.a 8 0) } } : Lalvo).goRemote

/-- VCHG_STAGE. -/
def execVchgStage (s : State) : Host.Outcome State Fault Refusal :=
  onLav s fun l => l.take 0x05 fun l d =>
    ({ l with link := { l.link with stVchg := some (vchgMv (d.a 7 0)) } } : Lalvo).goRemote

/-- PG_STAGE. -/
def execPgStage (s : State) : Host.Outcome State Fault Refusal :=
  onLav s fun l => l.take 0x06 fun l d =>
    ({ l with link := { l.link with stPg := some (d.a 9 5, d.a 4 0) } } : Lalvo).goRemote

/-- A commit of a mask (08 R296; 10 R355, R369): an invalid PG pair rejects it whole and sets PROT; names with nothing staged
are ignored. -/
def Lalvo.commit (l : Lalvo) (mask : Nat) : Lalvo :=
  let k := l.link
  let on := fun (i : Nat) => mask.testBit i
  if on 2 && k.stPg.any (fun p => !pgValid p.1 p.2 l.set.vhold l.vchgWord) then { l with link := { k with commitBad := true } }
  else
    let pg := if on 2 then k.stPg.getD (l.set.pgHi, l.set.pgLo) else (l.set.pgHi, l.set.pgLo)
    let ichg := if on 0 then k.stIchg.getD l.set.ichg else l.set.ichg
    let vchg := if on 1 then k.stVchg.getD l.set.vchg else l.set.vchg
    let changes := (on 0 && k.stIchg.isSome) || (on 1 && k.stVchg.isSome)
    let l : Lalvo := { l with set := { l.set with pgHi := pg.1, pgLo := pg.2 }
                              link := { k with stIchg := if on 0 then none else k.stIchg
                                               stVchg := if on 1 then none else k.stVchg
                                               stPg := if on 2 then none else k.stPg } }
    if changes then l.setCharging ichg vchg else l

/-- COMMIT. -/
def execCommit (s : State) : Host.Outcome State Fault Refusal :=
  onLav s fun l => l.take 0x07 fun l d => (l.commit (d.a 2 0)).goRemote

/-- POLICY (09 R320): under policy 3 the tracker starts. -/
def execPolicy (s : State) : Host.Outcome State Fault Refusal :=
  onLav s fun l => l.take 0x08 fun l d =>
    let l := ({ l with pol := d.a 1 0 } : Lalvo).goRemote
    if l.pol = 3 then l.startTracker else l

/-- KEEP: no change; as any directive judged, it has restarted the 256-frame count (LavLink.accept). -/
def execKeep (s : State) : Host.Outcome State Fault Refusal := onLav s fun l => l.take 0x09 fun l _ => l

/-- RELEASE: tag and remote mode dropped; the handle is kept. -/
def execDirectiveRelease (s : State) : Host.Outcome State Fault Refusal :=
  onLav s fun l => l.take 0x0A fun l _ => ({ l with link := { l.link with tagged := false } } : Lalvo).leaveRemote

/-- BEACON (08 R273): a pass without a handle answers each good copy; from the second BEACON of one handle it throws a coin. -/
def execBeacon (s : State) : Host.Outcome State Fault Refusal :=
  onLav s fun l => l.take 0x3F fun l d =>
    if l.link.hasHandle then l
    else
      let n := match l.link.beaconOf with
        | some (h, q) => if h ≠ d.handle then 1 else if q = d.seq then l.link.beacons else l.link.beacons + 1
        | none => 1
      let answers := n ≤ 1 || Config.helloCoin l.fresh
      { l with fresh := if n ≤ 1 then l.fresh else l.fresh + 1
               link := { l.link with beaconOf := some (d.handle, d.seq), beacons := n
                                     helloTag := if answers then some d.tag else l.link.helloTag } }

/-- REMOTE_MODE_TIMEOUT (08 R295): 256 frames' worth of carrier periods without a judged directive. -/
def execRemoteModeTimeout (s : State) : Host.Outcome State Fault Refusal :=
  onLav s fun l =>
    if l.mode = .active ∧ l.link.remote ∧ l.past l.link.remoteAt frames256Us then l.leaveRemote else l

end Sys2Proof.Machine
end

