-- ==== Sys2Proof/Machine/LavModes.lean ====
section
/-! DEFINITION. The LAV-12 over time: cold start, samples, the charge profile and the protections (09 sections 9.3, 9.6 to
9.9), the modes (10 sections 10.2, 10.3), its pins, and I2C with the NVM commands (10 sections 10.7, 10.8). -/

namespace Sys2Proof.Machine

open Sys2Proof

/-- A mode in which the die is powered; a cold start is none (10 R347). -/
def Lalvo.powered (l : Lalvo) : Bool := l.mode != .dead && l.mode != .cold

/-- A command that acts in a field alone. -/
def onField (s : State) (f : Lalvo → Lalvo) : Host.Outcome State Fault Refusal :=
  onLav s fun l => if l.mode = .active then f l else l

/-! ## The impedance check (09 R329, R330) -/

/-- The time between impedance checks, us. -/
def impGapUs : Nat := 64000000

/-- Entry into CC: a check begins, at most once per 64 s. -/
def Lalvo.enterCc (l : Lalvo) : Lalvo :=
  let l : Lalvo := { l with chg := .cc }
  if l.impAt.all (fun t => l.past t impGapUs) then { l with imp := some { n := 0, v0 := 0, i0 := 0 }, impAt := some l.us } else l

/-- The phase entered that VCS selects. -/
def Lalvo.enterPhase (l : Lalvo) : Lalvo :=
  match l.phaseFor l.vcs with
  | .cc => l.enterCc
  | p => { l with chg := p }

/-- An impedance check's result: kept for the gauge, and counted towards the age rule at 15 degrees C or more; the third
marks the cell aged, once, and its limits take effect at the next sample (09 R330). -/
def Lalvo.judgeAge (l : Lalvo) (r : Nat) : Lalvo :=
  let l : Lalvo := { l with rcell := some r }
  if l.temp < 15 then l
  else if r < l.rAge then { l with prot := { l.prot with ageRun := 0 } }
  else
    let l : Lalvo := { l with prot := { l.prot with ageRun := l.prot.ageRun + 1 } }
    if 3 ≤ l.prot.ageRun && !l.aged && !l.ageDue then
      { l with ageDue := true
               nvm := if l.nvm.words[12].getLsbD 0 then l.nvm else l.nvm.write 12 (l.nvm.words[12] ||| 1) }
    else l

/-- R_cell in ohms of a step of cell current (0.1 uA) that moved VCS by dv mV, to the nearest; none without a step. -/
def cellOhms (dv di : Int) : Option Nat :=
  if di ≤ 0 then none else some (roundDiv (10000 * dv.toNat) di.toNat)

/-- A 250 us sample of a check: after 2 ms at no current VCS is taken, and 2 ms after the step to the CC limit again. A check
whose charging stops or whose phase ends is void (log entry 114). -/
def Lalvo.checkSample (l : Lalvo) : Lalvo :=
  match l.imp with
  | none => l
  | some c =>
    if !l.charging || l.chg != .cc then { l with imp := none }
    else if c.n + 1 = 8 then { l with imp := some { n := 8, v0 := l.vcs, i0 := l.icell } }
    else if c.n + 1 = 16 then
      let l' : Lalvo := { l with imp := none }
      match cellOhms ((l.vcs : Int) - c.v0) (l.icell - c.i0) with
      | some r => l'.judgeAge r
      | none => l'
    else { l with imp := some { c with n := c.n + 1 } }

/-! ## Cold start (09 R311 to R313; 10 R366, R367) -/

/-- The words and the fuses are checked; where they fail, the die runs on the factory values and sets NVMF. -/
def Lalvo.checkWords (l : Lalvo) (fuses : Bool) : Lalvo :=
  let l' : Lalvo := { l with nvmf := false }
  let l : Lalvo := { l with nvmf := !fuses || l.nvm.words[63] != l.nvm.crc || !l'.relations }
  { l with aged := l.agedWord, ageDue := false }

/-- The step at which a cold start begins: where it stands, step 2 where the start reservoir still stands above 1.60 V, 2 ms
after the field was lost at most, and else step 1 (09 R313). -/
def Lalvo.coldFrom (l : Lalvo) (away : Nat) : Nat :=
  if l.mode = .cold then l.coldStep else if l.startRes && decide (away ≤ 2000) then 2 else 1

/-- The field is lost in a step of the cold start: the die is Dead, and its start reservoir is charged from step 2 on (09
R313). -/
def Lalvo.coldLost (l : Lalvo) (step : Nat) : Lalvo := { l.die with startRes := decide (2 ≤ step) }

/-- Steps 2 and 3: the words are read, and the converter starts at TUNE_START and 0.40 V and holds the node at 2.20 V. -/
def Lalvo.coldWords (l : Lalvo) (fuses : Bool) : Lalvo :=
  let l := (l.checkWords fuses).loadWords
  { l with mode := .cold, coldStep := 3, startRes := false, nodeSet := 2200
           set := { l.set with tune := l.set.tuneStart, vtgt := 400, dirRatio := none } }

/-- Steps 4 and 5: the cell check of 09 Table 9-4, the connect anchor of a connected cell (R335), and harvesting. -/
def Lalvo.coldEnd (l : Lalvo) (vrect vcs vsys : Nat) : Lalvo :=
  let connected := decide (l.vcutMv + 300 ≤ vcs)
  let l : Lalvo :=
    { l with mode := .active, coldStep := 0, vrect := min 2400 vrect, vcs := vcs, vsys := vsys, pg := false, pol := 1, carrier := true
             noCarrier := 0, chgSw := true, disSw := connected, prot := { l.prot with uv := !connected }
             link := { l.link with cold := true } }
  let l := if connected then (l.anchor (l.restCharge vcs)).enterPhase
    else { l with chg := if vcs < 2000 then .trickle else .precharge }
  l.startTracker.retarget.settle

/-- COLD_START: the sequence of 09 Table 9-2, to its end, to the step in which the field is lost again, or to the wait for
the system node at the end of step 3. -/
def execColdStart (r : ColdRun) (s : State) : Host.Outcome State Fault Refusal :=
  onLav s fun l =>
    if (l.mode = .dead ∧ 55 ≤ r.vrect) ∨ l.mode = .cold then
      let from_ := l.coldFrom r.away
      match r.lost with
      | some k => l.coldLost (max k from_)
      | none =>
        let l := if from_ ≤ 2 then l.coldWords r.fuses else l
        if r.vsys < 2100 then l else l.coldEnd r.vrect r.vcs r.vsys
    else l

/-! ## The 250 us sample (09 R325, R328, R329, R312) -/

/-- Over-voltage: three samples above open the charge switch; 150 mV below, the profile resumes in the phase that VCS
selects. -/
def Lalvo.judgeOv (l : Lalvo) : Lalvo :=
  if l.prot.ov then
    if l.vcs + 150 ≤ l.ovMv then
      let l : Lalvo := { l with prot := { l.prot with ov := false, ovRun := 0 }, chgSw := true }
      if l.chg = .failed ∨ l.chg = .timedOut then l else l.enterPhase
    else l
  else if l.ovMv < l.vcs then
    if 3 ≤ l.prot.ovRun + 1 then { l with prot := { l.prot with ov := true, ovRun := 0 }, chgSw := false }
    else { l with prot := { l.prot with ovRun := l.prot.ovRun + 1 } }
  else { l with prot := { l.prot with ovRun := 0 } }

/-- The phase changes that a sample judges, while the charge profile runs. -/
def Lalvo.judgePhase (l : Lalvo) : Lalvo :=
  if !l.charging then l
  else
    match l.chg with
    | .trickle => if 2000 ≤ l.vcs then { l with chg := .precharge } else l
    | .precharge => if 3000 ≤ l.vcs then l.enterCc else l
    | .cc => if l.effVchg ≤ l.vcs then { l with chg := .cv, cvUs := 0 } else l
    | .done => if l.vcs + 100 ≤ l.effVchg then l.enterCc else l
    | _ => l

/-- The times of the phases in this field (09 Table 9-7): of trickle, of precharge, and of CV without a break below ITERM. -/
def Lalvo.phaseTimes (l : Lalvo) : Lalvo :=
  let low := l.charging && l.chg == .cv && decide (l.icell < (50 * l.tenth : Nat))
  { l with trickleUs := if l.charging && l.chg == .trickle then l.trickleUs + 250 else l.trickleUs
           preUs := if l.charging && l.chg == .precharge then l.preUs + 250 else l.preUs
           cvUs := if low then l.cvUs + 250 else 0 }

/-- The cell is connected again when VCS reaches VCUT + 0.30 V. -/
def Lalvo.judgeConnect (l : Lalvo) : Lalvo :=
  if !l.disSw && decide (l.vcutMv + 300 ≤ l.vcs) then { l with disSw := true, prot := { l.prot with uv := false } } else l

/-- CELL_SAMPLE. A system node below 1.50 V, which the cell does not hold while the discharge switch is open, takes the die
down, and it cold-starts (09 R311). -/
def execCellSample (x : LavSample) (s : State) : Host.Outcome State Fault Refusal :=
  onField s fun l =>
    let p := l.prot
    let l : Lalvo := { l with us := l.us + 250, aged := l.aged || l.ageDue, ageDue := false, prot := { p with docWas := none } }
    let l := (l.measure x).addCharge x.charge
    if x.vsys < 1500 then l.die
    else ((l.checkSample.phaseTimes.judgeOv.judgePhase.judgeConnect.judgePg x.vcs).retarget).settle

/-- One temperature window: outside and inside runs, two to set and two, 3 degrees inside, to recover (09 Table 9-9). -/
def judgeWindow (on : Bool) (out inside : Nat) (win : Int × Int) (t : Int) : Bool × Nat × Nat :=
  if t < win.1 ∨ win.2 < t then (on || decide (2 ≤ out + 1), out + 1, 0)
  else if win.1 + 3 ≤ t ∧ t + 3 ≤ win.2 then (on && decide (inside + 1 < 2), 0, inside + 1)
  else (on, 0, 0)

/-- TEMPERATURE_SAMPLE. -/
def execTemperatureSample (t : Int) (s : State) : Host.Outcome State Fault Refusal :=
  onLav s fun l =>
    if l.powered then
      let p := l.prot
      let (c, co, ci) := judgeWindow p.chgT p.chgTOut p.chgTIn l.chgWin t
      let (d, di, dj) := judgeWindow p.disT p.disTOut p.disTIn l.disWin t
      ({ l with temp := t, prot := { p with chgT := c, chgTOut := co, chgTIn := ci, disT := d, disTOut := di, disTIn := dj } } : Lalvo).settle
    else l

/-! ## The local tracker (09 R321) -/

/-- track_step of 09 section 9.6. -/
def Lalvo.trackStep (l : Lalvo) (p : Nat) : Lalvo :=
  let k := l.trk
  let up := if p < k.pPrev then !k.up else k.up
  let tune := if up then min 63 (l.set.tune + 1) else l.set.tune - 1
  let vtgt := if up then min 2000 (l.set.vtgt + 24) else max 200 (l.set.vtgt - 24)
  let set : LavSet := if k.vtgtPhase then { l.set with vtgt := vtgt } else { l.set with tune := tune }
  let turn := decide (4 ≤ k.n + 1)
  let low := if p < 2 then k.low + 1 else 0
  let lost := decide (16 ≤ low)
  { l with
    pin := p
    set := if lost then { set with tune := set.tuneStart, vtgt := 400 } else set
    trk := { vtgtPhase := if turn then !k.vtgtPhase else k.vtgtPhase, up := turn || up, n := if turn then 0 else k.n + 1
             low := if lost then 0 else low, pPrev := p } }

/-- TRACKER_STEP, every 4 ms. -/
def execTrackerStep (uW : Nat) (s : State) : Host.Outcome State Fault Refusal :=
  onField s fun l => if l.tracks then (l.trackStep uW).retarget else l

/-! ## Ends of charge phases (09 Table 9-7) -/

/-- TRICKLE_TIMEOUT: 10 s of trickle in this field, and VCS below 1.00 V. -/
def execTrickleTimeout (s : State) : Host.Outcome State Fault Refusal :=
  onField s fun l =>
    if l.charging ∧ l.chg = .trickle ∧ l.vcs < 1000 ∧ l.counted l.trickleUs 10000000 then { l with chg := .failed } else l

/-- PRECHARGE_TIMEOUT: 300 s of precharge in this field. -/
def execPrechargeTimeout (s : State) : Host.Outcome State Fault Refusal :=
  onField s fun l =>
    if l.charging ∧ l.chg = .precharge ∧ l.counted l.preUs 300000000 then { l with chg := .timedOut } else l

/-- CV_TERMINATION: the cell current below ITERM for 1 s in this field without a break (R343); the full anchor (09 R335). -/
def execCvTermination (s : State) : Host.Outcome State Fault Refusal :=
  onField s fun l =>
    if l.charging ∧ l.chg = .cv ∧ l.icell < (50 * l.tenth : Nat) ∧ l.counted l.cvUs 1000000 then
      let l := l.chargeDone
      l.anchor (l.restCharge l.effVchg)
    else l

/-! ## The gauge (09 R332, R334, R335) -/

/-- REST_ANCHOR: VCS with the cell current taken as 0, in any mode except Dead, once the cell current has been below 2 uA for
10 s (R342). -/
def execRestAnchor (vcs : Nat) (s : State) : Host.Outcome State Fault Refusal :=
  onLav s fun l =>
    if l.powered && decide (l.icell.natAbs < 20) && !l.rested && l.past l.restAt 10000000 then
      ({ l with vcs := vcs, rested := true } : Lalvo).anchor (l.restCharge vcs)
    else l

/-- GAUGE_COMPARE. -/
def execGaugeCompare (s : State) : Host.Outcome State Fault Refusal := onLav s fun l => if l.powered then l.compare else l

/-- GAUGE_SUBTRACTION: 2.67 nAh in Shelf, 1.60 nAh in Hold (10 Table 10-2). -/
def execGaugeSubtraction (s : State) : Host.Outcome State Fault Refusal :=
  onLav s fun l =>
    match l.mode with
    | .shelf => l.addCharge (-26700)
    | .hold => l.addCharge (-16000)
    | _ => l

/-! ## Protections that comparators judge (09 Table 9-9) -/

/-- The charge over-current threshold, 0.1 uA: twice the phase's limit + 20 uA, at most 2.60 mA. -/
def Lalvo.ocLimit (l : Lalvo) : Nat := min 26000 (100 * l.currentLimit + 200)

/-- CHARGE_OVER_CURRENT: 64 ms without charging; the fourth trip in a field stops it. -/
def execChargeOverCurrent (icell : Int) (s : State) : Host.Outcome State Fault Refusal :=
  onField s fun l =>
    if l.prot.ocPause ∨ l.prot.ocStop ∨ icell ≤ (l.ocLimit : Int) then l
    else
      let n := l.prot.ocTrips + 1
      { l with prot := { l.prot with ocTrips := n, ocPause := decide (n < 4), ocAt := l.us, ocStop := decide (4 ≤ n) } }

/-- CHARGE_OC_RESTART: 64 ms after the trip. -/
def execChargeOcRestart (s : State) : Host.Outcome State Fault Refusal :=
  onLav s fun l => if l.past l.prot.ocAt 64000 then { l with prot := { l.prot with ocPause := false } } else l

/-- DISCHARGE_OVER_CURRENT: the load switch opens; the fourth trip without 64 s free of trips holds it open. -/
def execDischargeOverCurrent (uA : Nat) (s : State) : Host.Outcome State Fault Refusal :=
  onLav s fun l =>
    if l.loadSw ∧ l.docUa < uA then
      let p := l.prot
      let n := if p.docTrips = 0 ∨ l.past p.docAt 64000000 then 1 else p.docTrips + 1
      ({ l with prot := { p with docTrips := n, docAt := l.us, docWas := some (p.docTrips, p.docAt), docOpen := true
                                 docStop := decide (4 ≤ n) } } : Lalvo).settle
    else l

/-- LOAD_SWITCH_RETRY: 256 ms after a trip. -/
def execLoadSwitchRetry (s : State) : Host.Outcome State Fault Refusal :=
  onLav s fun l =>
    if l.prot.docOpen ∧ ¬l.prot.docStop ∧ l.past l.prot.docAt 256000 then
      ({ l with prot := { l.prot with docOpen := false } } : Lalvo).settle
    else l

/-- LOAD_SHORT: VLOAD below half its set voltage; the load switch opens until the next new field. With a discharge
over-current of the same event, the one tripped since the last sample, it counts as the short alone (09 R341). -/
def execLoadShort (vload : Nat) (s : State) : Host.Outcome State Fault Refusal :=
  onLav s fun l =>
    let p := l.prot
    if 2 * vload < l.vloadMv ∧ (l.loadSw ∨ p.docWas.isSome) then
      let p := match p.docWas with
        | some (n, t) => { p with docTrips := n, docAt := t, docWas := none, docOpen := false, docStop := false }
        | none => p
      ({ l with vload := vload, prot := { p with short := true } } : Lalvo).settle
    else l

/-- UNDER_VOLTAGE_CUT: VCS below VCUT; the discharge switch opens. In a field the die charges under 09 Table 9-4 until it
reconnects; out of one it is Dead (09 R344; 10 Table 10-3). -/
def execUnderVoltageCut (vcs : Nat) (s : State) : Host.Outcome State Fault Refusal :=
  onLav s fun l =>
    if l.vcutMv ≤ vcs then l
    else
      match l.mode with
      | .active =>
        if l.disSw then
          ({ l with vcs := vcs, disSw := false, prot := { l.prot with uv := true }
                    chg := if l.chg = .failed ∨ l.chg = .timedOut then l.chg else if vcs < 2000 then .trickle else .precharge } : Lalvo).settle
        else l
      | .dead | .cold => l
      | _ => l.die

/-! ## Modes (10 R348 to R352) -/

/-- A wake: Active, with SUP_ARM and NAP cleared and the operating point last in force (10 R349, R350). -/
def Lalvo.wake (l : Lalvo) : Lalvo :=
  ({ l with mode := .active, supArm := false, nap := false, noCarrier := 0 } : Lalvo).retarget.settle

/-- Shelf: the load switch opens, SUP_ARM and NAP are cleared where Supervise ends. -/
def Lalvo.toShelf (l : Lalvo) : Lalvo := ({ l with mode := .shelf, supArm := false, nap := false } : Lalvo).settle

/-- Hold: the load switch opens, the PG decision is cleared. -/
def Lalvo.toHold (l : Lalvo) : Lalvo := ({ l with mode := .hold, pg := false } : Lalvo).settle

/-- Active without carrier (10 Table 10-3): what ends with the field, and the mode that follows. A NAP written in Active selects
Shelf (10 R373; log entry 116). -/
def Lalvo.leaveField (l : Lalvo) (vcs : Nat) : Lalvo :=
  let l : Lalvo := { l with prot := { l.prot with ocPause := false }, imp := none, cvUs := 0, supAt := l.us, icell := min l.icell 0 }
  if !l.disSw then l.die
  else if vcs < l.set.vhold then l.toHold
  else if !l.nap && (l.supArm || (l.pg && l.set.supTime != 0)) then ({ l with mode := .supervise } : Lalvo).settle
  else ({ l with mode := .shelf } : Lalvo).settle

/-- The mode change that a supervision sample judges; in Supervise and Shelf it is judged for PG too (10 R353). -/
def Lalvo.superviseMode (l : Lalvo) (carrier : Bool) (vcs : Nat) : Lalvo :=
  match l.mode with
  | .active => if carrier then l else l.leaveField vcs
  | .supervise | .shelf =>
    if carrier then (l.judgePg vcs).wake
    else if vcs < l.set.vhold then { l.toHold with supArm := false, nap := false }
    else l.judgePg vcs
  | .hold => if carrier then l.wake else l
  | .dead | .cold => l

/-- The cell current outside a field, 0.1 uA (log entry 115): in Supervise the mean that the charge integrated over 64 ms
gives, in Shelf and Hold the mode's typical current (10 Table 10-2). -/
def Lalvo.idleCurrent (l : Lalvo) (charge : Int) : Lalvo :=
  match l.mode with
  | .supervise => l.current (Int.tdiv (charge * 9) 160)
  | .shelf => l.current (-2)
  | .hold => l.current (-1)
  | _ => l

/-- Carrier edges of at least 50 mV within the 40 us of a sample that make a carrier (10 R351). -/
def carrierEdges : Nat := 256

/-- SUPERVISION_SAMPLE, every 64 ms: the second without carrier makes the field new. -/
def execSupervisionSample (edges vcs : Nat) (charge : Int) (s : State) : Host.Outcome State Fault Refusal :=
  onLav s fun l =>
    if !l.powered then l
    else
      let carrier := decide (carrierEdges ≤ edges)
      let l : Lalvo := { l with carrier := carrier, noCarrier := if carrier then 0 else l.noCarrier + 1
                                us := if l.mode = .active then l.us else l.us + 64000
                                prot := { l.prot with docWas := none } }
      let l := if l.mode = .supervise then l.addCharge charge else l
      let l := l.idleCurrent charge
      let l := if l.mode = .hold then l else { l with vcs := vcs }
      let n := l.noCarrier
      let l := l.superviseMode carrier vcs
      if n = 2 && l.powered then l.newField else l

/-- WAKE: VRECT at 0.30 V at any time out of a field, so long in us after the last sample. -/
def execWake (vrect us : Nat) (s : State) : Host.Outcome State Fault Refusal :=
  onLav s fun l =>
    match l.mode with
    | .supervise | .shelf | .hold =>
      if 300 ≤ vrect then ({ l with vrect := min 2400 vrect, us := l.us + us } : Lalvo).wake else l
    | _ => l

/-- SUP_TIME_EXPIRY: only a Supervise that SUP_ARM does not hold counts SUP_TIME. -/
def execSupTimeExpiry (s : State) : Host.Outcome State Fault Refusal :=
  onLav s fun l =>
    if l.mode = .supervise ∧ ¬l.supArm ∧ l.past l.supAt (1000000 * l.set.supTime) then l.toShelf else l

/-! ## Pins (10 R354, R358, R359) -/

/-- TXM_EDGE. -/
def execTxmEdge (high : Bool) (s : State) : Host.Outcome State Fault Refusal := onLav s fun l => { l with txm := high }

/-- FIELD_ENVELOPE_CHANGE. -/
def execFieldEnvelopeChange (below : Bool) (s : State) : Host.Outcome State Fault Refusal :=
  onLav s fun l => { l with envLow := below }

/-- VLOAD_REGULATION_CHANGE. -/
def execVloadRegulationChange (inReg : Bool) (s : State) : Host.Outcome State Fault Refusal :=
  onLav s fun l => { l with inReg := inReg && l.loadSw }

/-! ## I2C (10 R360, R361) -/

/-- A write over I2C, which works only while VLOAD is on. -/
def onI2c (s : State) (f : Lalvo → Lalvo) : Host.Outcome State Fault Refusal :=
  onLav s fun l => if l.loadSw then f l else l

/-- NAP set by the load: Supervise ends at once (10 R349, R373). -/
def Lalvo.setNap (l : Lalvo) : Lalvo := if l.mode = .supervise then l.toShelf else { l with nap := true }

/-- NAP. -/
def execNap (s : State) : Host.Outcome State Fault Refusal := onI2c s Lalvo.setNap

/-- LV_QG_LO written: the issuance anchor, until ISSUED is blown. -/
def Lalvo.writeQg (l : Lalvo) (w : BitVec 16) : Lalvo :=
  if l.nvm.issued || l.cap == 0 then l else l.anchor ((w.toNat + 2 ^ 16 * l.qgHi.toNat) * gaugeUnit : Nat)

/-- LV_QG_LO_WRITE. -/
def execLvQgLoWrite (w : BitVec 16) (s : State) : Host.Outcome State Fault Refusal := onI2c s fun l => l.writeQg w

/-! ### NVM commands (10 R363 to R365) -/

/-- A command to the NVM while none is under way; its result shows in LV_NVSTAT. -/
def Lalvo.nvCommand (l : Lalvo) (f : Lalvo → Lalvo) : Lalvo := if l.nvBusy then l else f l

def Lalvo.result (l : Lalvo) (r : BitVec 4) : Lalvo := { l with nvRes := r }

/-- A read: the key reads as zero. -/
def Lalvo.nvRead (l : Lalvo) : Lalvo :=
  let k := l.nvAddr.toNat
  { l with nvData := if 16 ≤ k && k ≤ 23 then 0 else l.nvm.words.toList.getD k 0, nvRes := 0 }

/-- The refusal of a write, first of its table. -/
def Lalvo.writeRefused (l : Lalvo) : Option (BitVec 4) :=
  let k := l.nvAddr.toNat
  if k = 0 || (56 ≤ k && k ≤ 61) || k = 63 || (48 ≤ k && k ≤ 55 && l.nvm.limits) || l.nvm.issued then some 1
  else if l.vsys < 3300 then some 2
  else if nvRangeBad k l.nvData then some 6
  else none

def Lalvo.nvWrite (l : Lalvo) : Lalvo :=
  match l.writeRefused with
  | some r => l.result r
  | none => { l with nvBusy := true, nvRes := 0 }

/-- The die as it would run on the words as written: the relations among the words are checked on them (10 R364). -/
def Lalvo.asWritten (l : Lalvo) : Lalvo := { l with nvmf := false }

/-- Apply: words 5 to 11 come into force as written. -/
def Lalvo.nvApply (l : Lalvo) : Lalvo :=
  if l.nvm.issued then l.result 1
  else if !l.asWritten.relations then l.result 6
  else ((l.loadFrom l.asWritten).result 0).settle

def Lalvo.blowLimits (l : Lalvo) : Lalvo :=
  if l.nvData ≠ 0x4C4D then l.result 4
  else if !l.asWritten.relations then l.result 6
  else ({ l with nvm := { l.nvm with limits := true } } : Lalvo).result 0

def Lalvo.blowIssued (l : Lalvo) : Lalvo :=
  if l.nvData ≠ 0x4953 then l.result 4
  else if !l.nvm.limits then l.result 5
  else if !l.asWritten.relations then l.result 6
  else ({ l with nvm := { l.nvm with issued := true } } : Lalvo).result 0

/-- NV_READ. -/
def execNvRead (s : State) : Host.Outcome State Fault Refusal := onI2c s fun l => l.nvCommand Lalvo.nvRead
/-- NV_WRITE. -/
def execNvWrite (s : State) : Host.Outcome State Fault Refusal := onI2c s fun l => l.nvCommand Lalvo.nvWrite
/-- NV_APPLY. -/
def execNvApply (s : State) : Host.Outcome State Fault Refusal := onI2c s fun l => l.nvCommand Lalvo.nvApply
/-- BLOW_LIMITS. -/
def execBlowLimits (s : State) : Host.Outcome State Fault Refusal := onI2c s fun l => l.nvCommand Lalvo.blowLimits
/-- BLOW_ISSUED. -/
def execBlowIssued (s : State) : Host.Outcome State Fault Refusal := onI2c s fun l => l.nvCommand Lalvo.blowIssued

/-- A word written comes into force where the die runs on it: CAP is an anchor (09 R346), and with CAP 0 no charge is kept (R332);
the aged mark is cleared by rewriting it (09 Table 9-9). -/
def Lalvo.afterWrite (l : Lalvo) (k : Nat) : Lalvo :=
  if l.nvmf then l
  else if k = 3 ∨ k = 4 then
    if l.cap = 0 then { l with qg := 0, qgFrac := 0, disag := false } else l.anchor l.voltCharge
  else if k = 12 then { l with aged := l.agedWord, ageDue := false }
  else l

/-- NVM_WRITE_COMPLETE: the word and word 63 are written, or the read-back failed; a field loss does not stop it
(10 R376). -/
def execNvmWriteComplete (verified : Bool) (s : State) : Host.Outcome State Fault Refusal :=
  onLav s fun l =>
    if l.nvBusy then
      if verified then
        ({ l with nvm := l.nvm.write l.nvAddr.toNat l.nvData, nvBusy := false, nvRes := 0 } : Lalvo).afterWrite l.nvAddr.toNat
      else { l with nvm := { l.nvm with words := vmodN l.nvm.words l.nvAddr.toNat fun _ => Config.nvmWord l.fresh }
                    nvBusy := false, nvRes := 3, fresh := l.fresh + 1 }
    else l

/-- LV_NVCMD written. -/
def Lalvo.command (l : Lalvo) (cmd : Nat) : Lalvo :=
  l.nvCommand fun l =>
    match cmd with
    | 1 => l.nvRead
    | 2 => l.nvWrite
    | 3 => l.nvApply
    | 4 => l.blowLimits
    | 5 => l.blowIssued
    | _ => l

/-- A register written over I2C (10 Table 10-5); a read-only or unlisted one ignores it. LV_NVADDR and LV_NVDATA stand while a
word is being programmed. -/
def Lalvo.i2cWrite (l : Lalvo) (a : Nat) (w : BitVec 16) : Lalvo :=
  match a with
  | 0x06 => l.writeQg w
  | 0x07 => if l.nvm.issued then l else { l with qgHi := w.extractLsb' 0 2 }
  | 0x18 => if w.getLsbD 0 then l.setNap else l
  | 0x20 => if l.nvBusy then l else { l with nvAddr := w.extractLsb' 0 6 }
  | 0x21 => if l.nvBusy then l else { l with nvData := w }
  | 0x22 => l.command w.toNat
  | _ => l

/-- I2C_REGISTER_WRITE. -/
def execI2cRegisterWrite (addr : Byte) (w : BitVec 16) (s : State) : Host.Outcome State Fault Refusal :=
  onI2c s fun l => l.i2cWrite addr.toNat w

/-- The charge phase as LV_STAT shows it. -/
def LavCharge.code : LavCharge → Nat
  | .trickle => 0
  | .precharge => 1
  | .cc => 2
  | .cv => 3
  | .done => 4
  | .failed => 5
  | .timedOut => 6

/-- LV_STAT. -/
def Lalvo.stat (l : Lalvo) : Nat :=
  pack [(bit (l.mode == .supervise), 15), (bit l.carrier, 14), (bit l.pg, 13), (bit l.link.remote, 12), (bit l.disag, 11),
        (bit l.protActive, 10), (bit (l.aged || l.ageDue), 9), (bit l.nvmf, 8), (l.chg.code, 5), (bit l.keyPresent, 4),
        (bit l.nvm.limits, 3), (bit l.nvm.issued, 2), (bit l.supArm, 1), (bit l.nap, 0)]

/-- LV_PROT. -/
def LavProt.word (p : LavProt) : Nat :=
  pack [(bit p.ov, 0), (bit p.uv, 1), (bit (p.ocPause || p.ocStop), 2), (bit (p.docOpen || p.docStop), 3), (bit p.short, 4),
        (bit p.chgT, 5), (bit p.disT, 6)]

/-- What a read of a register over I2C returns (10 Table 10-5). -/
def Lalvo.i2cRead (l : Lalvo) (a : Nat) : BitVec 16 :=
  BitVec.ofNat 16 (match a with
    | 0x00 => 0x4C10
    | 0x01 => l.stat
    | 0x02 => l.vcs
    | 0x03 => l.vrect
    | 0x04 => twos 16 l.icell
    | 0x05 => twos 8 l.temp
    | 0x06 => l.qg
    | 0x07 => l.qg / 2 ^ 16
    | 0x08 => satTo 65535 (l.rcell.getD 0)
    | 0x09 => pack [(l.set.tune, 8), (l.set.ratio - 1, 5)]
    | 0x0A => l.set.vtgt / 8
    | 0x0B => l.effIchg
    | 0x0C => (l.effVchg - 3800) / 2
    | 0x0D => pack [(l.set.pgHi, 5), (l.set.pgLo, 0)]
    | 0x0E => l.prot.word
    | 0x0F => pack [(l.link.handle.toNat, 4), (l.link.tag.toNat, 0)]
    | 0x10 => pack [(bit l.link.tagged, 8), (l.link.lastSeq.toNat, 4), (l.link.bank.toNat, 0)]
    | 0x20 => l.nvAddr.toNat
    | 0x21 => l.nvData.toNat
    | 0x23 => pack [(bit l.nvBusy, 15), (l.nvRes.toNat, 0)]
    | _ => 0)

end Sys2Proof.Machine
end

