-- ==== Sys2Proof/Machine/Operands.lean ====
section
/-! DEFINITION. Descriptors and their fields (04 Table 4-4, 05 Tables 5-3 to 5-12), the running template's entries (02
R63, R75), the binding of operations to cleats (05 R163, R164; 15 R525), the order of the checks (05 R166) and declared
pairs written by operations (05 R169). -/

namespace Sys2Proof.Machine

open Sys2Proof

/-! ## Descriptor fields (04 Table 4-4) -/

def wordAt (ws : List Word) (n : Nat) : Word := ws.getD n 0

def descOpcode (ws : List Word) : Nat := fld (wordAt ws 0) 31 16
def descTag (ws : List Word) : Nat := fld (wordAt ws 0) 15 0
def descFence (ws : List Word) : Bool := fld (wordAt ws 1) 31 31 = 1
def descIrqNow (ws : List Word) : Bool := fld (wordAt ws 1) 30 30 = 1
def descReserved (ws : List Word) : Nat := fld (wordAt ws 1) 29 28
def descTarget (ws : List Word) : Nat := fld (wordAt ws 1) 27 16
def descBufLen (ws : List Word) : Nat := fld (wordAt ws 1) 15 0
def descBufAddr (ws : List Word) : Nat := (wordAt ws 2).toNat + (wordAt ws 3).toNat * 2 ^ 32

def Op.opcode (o : Op) : Nat := descOpcode o.words
def Op.target (o : Op) : Nat := descTarget o.words
def Op.bufLen (o : Op) : Nat := descBufLen o.words
/-- Argument word An: descriptor word 4 + n (05 R162). -/
def Op.arg (o : Op) (n : Nat) : Word := wordAt o.words (4 + n)
/-- A field of an argument word. -/
def Op.a (o : Op) (n hi lo : Nat) : Nat := fld (o.arg n) hi lo
/-- The handle that an operation names. -/
def Op.handle (o : Op) : BitVec 12 := BitVec.ofNat 12 o.target

/-! ## The opcodes (05 Tables 5-1 to 5-12) -/

/-- What a TARGET names and how far it reaches: zero, a unit below a bound, or a handle. -/
inductive TargetKind where
  | zero
  | below (n : Nat)
  | any
  deriving DecidableEq, Repr

structure OpInfo where
  opcode : Nat
  classes : List Cls
  engine : Option Nat       -- engine of the family whose channel a C cleat must include (05 Table 5-1)
  image : Bool              -- needs an active image
  target : TargetKind
  masks : List Nat          -- bits of A0, A1, … that the table names
  buffer : Bool := false    -- uses a buffer
  deriving DecidableEq, Repr

def opTable1 : List OpInfo :=
  [ ⟨0x1101, [.p], some 0, true, .any, [0x3], true⟩,
    ⟨0x1102, [.p], some 0, true, .any, [0xFFFF], true⟩,
    ⟨0x1103, [.p], some 0, true, .any, [], false⟩,
    ⟨0x1104, [.c], some 0, true, .below 4, [0xFFFF, 0x7], false⟩,
    ⟨0x1105, [.c], some 0, true, .any, [0xFFFF], false⟩,
    ⟨0x1201, [.u], some 0, false, .zero, [0xFFFF], false⟩,
    ⟨0x1202, [.c], some 0, true, .zero, [0xFFFF], false⟩,
    ⟨0x1203, [.c], some 0, true, .zero, [0xFFFF], false⟩,
    ⟨0x1204, [.c], some 0, true, .below 4, [0x3], false⟩,
    ⟨0x1205, [.c], some 0, true, .below 4, [0x07FF003F, 0x3], false⟩,
    ⟨0x1206, [.c], some 0, true, .below 16, [0x00FFFF01, 0x3], false⟩,
    ⟨0x1207, [.c], some 0, true, .below 16, [0x3F77], false⟩,
    ⟨0x1301, [.c], some 1, true, .below 2, [0xFFFFFFFF, 0x3], false⟩,
    ⟨0x1302, [.u], some 1, false, .below 2, [], false⟩,
    ⟨0x1303, [.c], some 1, true, .below 2, [0x3F], false⟩,
    ⟨0x1304, [.c], some 1, true, .below 2, [0x3F], false⟩,
    ⟨0x1305, [.c], some 1, true, .below 2, [], false⟩,
    ⟨0x1306, [.c], some 1, true, .below 2, [0xFFFF, 0x3], false⟩,
    ⟨0x1307, [.c], some 1, true, .below 2, [0x07FF0001], false⟩,
    ⟨0x1401, [.u], some 2, false, .zero, [0xF], false⟩,
    ⟨0x1402, [.u], some 2, false, .below 4, [], false⟩,
    ⟨0x1403, [.c], some 2, true, .below 4, [0x1], false⟩,
    ⟨0x1404, [.c], some 2, true, .below 4, [0xFF1F], false⟩,
    ⟨0x1405, [.c], some 2, true, .below 4, [0xFFFF, 0xFFFFFFFF], false⟩,
    ⟨0x1406, [.c], some 2, true, .below 4, [], false⟩,
    ⟨0x1407, [.c], some 2, true, .below 4, [], false⟩,
    ⟨0x1408, [.c], some 2, true, .zero, [0x00FF00FF, 0x3], false⟩,
    ⟨0x1409, [.c], some 2, true, .zero, [0x1], false⟩,
    ⟨0x140A, [.c], some 2, true, .zero, [0xF], false⟩,
    ⟨0x140B, [.c], some 2, true, .zero, [], false⟩ ]

def opTable2 : List OpInfo :=
  [ ⟨0x1501, [.c], some 1, true, .below 4, [0x00FFFF07, 0x3], false⟩,
    ⟨0x1502, [.c], some 1, true, .below 4, [0x00FFFF03], false⟩,
    ⟨0x1503, [.c], some 1, true, .below 4, [0x1F], false⟩,
    ⟨0x1504, [.c], some 1, true, .below 4, [0x00FFFFFF], false⟩,
    ⟨0x1505, [.c], some 1, true, .zero, [0xFFFF], false⟩,
    ⟨0x1506, [.c], some 1, true, .zero, [], false⟩,
    ⟨0x1507, [.c], some 1, true, .below 8, [0xFFFF], false⟩,
    ⟨0x1601, [.c], some 1, true, .zero, [0x01FF03FF], false⟩,
    ⟨0x1602, [.c], some 1, true, .zero, [], false⟩,
    ⟨0x1603, [.c], some 1, true, .zero, [], false⟩,
    ⟨0x1604, [.u], some 1, false, .zero, [], false⟩,
    ⟨0x1605, [.c], some 1, true, .zero, [0xFF01], false⟩,
    ⟨0x1701, [.b], none, true, .any, [], false⟩,
    ⟨0x1702, [.b], none, true, .any, [], false⟩,
    ⟨0x1703, [.b], none, true, .any, [], false⟩,
    ⟨0x1704, [.b], none, true, .any, [], false⟩,
    ⟨0x1705, [.c, .b], none, true, .any, [0xFF03], false⟩,
    ⟨0x1706, [.b], none, true, .any, [0xFFFFFFFF, 0xFFFFFFFF, 0xFFFFFFFF, 0xFFFFFFFF, 0xFF], false⟩,
    ⟨0x1707, [.b], none, true, .any, [], false⟩,
    ⟨0x1708, [.c], none, true, .zero, [0xFFFFFFFF, 0xFFFFFFFF], false⟩,
    ⟨0x1801, [.c], none, false, .zero, [], false⟩,
    ⟨0x1802, [.c], none, false, .below 4, List.replicate 9 0xFFFFFFFF, false⟩,
    ⟨0x1803, [.c], none, false, .below 4, List.replicate 8 0 ++ [0xFFFFFFFF], false⟩,
    ⟨0x1901, [.c], none, true, .any, [0xFF], false⟩,
    ⟨0x1A01, [.c], none, false, .zero, [0xFFFF], false⟩,
    ⟨0x1A02, [.c], none, true, .zero, [], false⟩,
    ⟨0x1A03, [.c], none, true, .zero, [], false⟩,
    ⟨0x1A04, [.c], none, false, .zero, [], false⟩,
    ⟨0x1A05, [.c], none, false, .zero, [], false⟩,
    ⟨0x1A06, [.c], none, false, .zero, [0xFFFF], false⟩,
    ⟨0x1B01, [.c, .b], none, false, .any, [0xFFFFFFFF, 0xF], true⟩,
    ⟨0x1B02, [.c, .b], none, false, .any, [0xFFFFFFFF, 0xF], true⟩,
    ⟨0x1B03, [.c, .b], none, false, .zero, [0xFFFFFFFF], true⟩,
    ⟨0x1B04, [.c, .b], none, false, .any, [0xFFFFFFFF], true⟩,
    ⟨0x1B05, [.c, .b], none, false, .any, [0xFFFFFFFF], true⟩,
    ⟨0x1B06, [.c, .b], none, false, .zero, [0xFFFFFFFF], true⟩ ]

/-- The row of an opcode; none where it is not defined (05 R162). -/
def opInfo (c : Nat) : Option OpInfo := (opTable1 ++ opTable2).find? fun r => r.opcode == c

/-- The query family (05 Table 5-1). -/
def isQuery (c : Nat) : Bool := c / 256 == 0x1B

/-- The engine whose channel a C cleat must include; for DIAG_START the engine of the unit tested (05 Table 5-1). -/
def Op.engine (o : Op) : Option Nat :=
  if o.opcode = 0x1901 then some (if o.a 0 7 0 = 1 then 0 else 1)
  else (opInfo o.opcode).bind (·.engine)

/-- Reserved argument bits or a TARGET out of its range, or a buffer named where none is used (05 R162, Table 5-2). -/
def Op.reservedBad (o : Op) : Bool :=
  match opInfo o.opcode with
  | none => true
  | some r =>
    (List.range 12).any (fun n => (o.arg n).toNat &&& (0xFFFFFFFF - r.masks.getD n 0) != 0) ||
    (match r.target with
     | .zero => o.target != 0
     | .below n => decide (n ≤ o.target)
     | .any => false) ||
    (!r.buffer && o.bufLen != 0)

/-! ## Entries of the running template -/

/-- The built-in harbour schedule, in the order of 02 R64; its scans start at offset 64 of their slots (log entry 18). -/
def harbourSlot (k : Nat) : List Entry :=
  let s := slotLen * k
  [ ⟨0x07, 1, s, 0, 0, 64, 0, 0, 0x80000000⟩ ] ++
  (if k % 4 = 1 then [⟨0x08, 0, s + 64, 0, 0, 384, 0x0401, 0, 0x10000000⟩] else []) ++
  (if k = 19 then [⟨0x08, 0, s + 64, 0, 0, 768, 0x0402, 0, 0x10000000⟩] else []) ++
  [ ⟨0x10, 0, s + 64, 0, 0, 512, 0x0501, 1, 0x20000000⟩,
    ⟨0x3F, 1, s + 576, 1, 0, 1024, 0, 0, 0x80000000⟩ ]

def harbourEntries : List Entry := (List.range 40).flatMap harbourSlot

/-- The entries of a template choice under the active image. -/
def Vexone.entriesOf (v : Vexone) (r : Running) : List Entry :=
  match v.active, r with
  | none, _ => harbourEntries
  | some _, .harbour => harbourEntries
  | some im, .ordinary t => im.tpls.getD t []
  | some im, .egress => im.tpls.getD im.egressTpl []
  | some im, .quiet => im.tpls.getD im.quietTpl []

/-- Entry i of the running template. -/
def Vexone.entry (v : Vexone) (i : Nat) : Option Entry := (v.entriesOf v.sch.run)[i]?

/-- The last edge of an entry. -/
def Entry.last (e : Entry) : Nat := e.start + e.dur - 1

/-- The segments that an entry names. -/
def Entry.segs (e : Entry) : BitVec 16 := e.tracks.extractLsb' 0 16

/-! ## Binding (05 R163, R164; 15 R525) -/

/-- Whether an operation's cleat may be this entry (05 R163). -/
def Op.fits (o : Op) (e : Entry) : Bool :=
  e.kind == 1 && e.cls == clsNum o.cls &&
  match o.cls with
  | .u => true
  | .c => match o.engine with | none => true | some k => e.engines.getLsbD k
  | .b => !(o.opcode == 0x1701 || o.opcode == 0x1702) || e.tracks.getLsbD 30
  | .p => false

/-- FENCE: every operation admitted before it from the same ring has completed by a CCLK time, its execution having ended at an
earlier edge (04 R141; 15 R526). -/
def Vexone.fenceClear (v : Vexone) (o : Op) (t : Nat) : Bool :=
  !descFence o.words || v.ops.all fun x =>
    !(x.m == o.m && x.cls == o.cls && decide (x.seq < o.seq) && !(x.isComplete && decide (x.readyAt ≤ t)))

/-- Earlier operations of the ring with the same TARGET have begun (04 R140). -/
def Vexone.targetClear (v : Vexone) (o : Op) : Bool :=
  v.ops.all fun x =>
    !(x.m == o.m && x.cls == o.cls && decide (x.seq < o.seq) && x.target == o.target && x.phase == .admitted)

/-- Whether an operation may begin in a cleat that starts at an edge: admitted at an earlier edge, its buffer read in. -/
def Vexone.ready (v : Vexone) (o : Op) (start : Nat) : Bool :=
  o.phase == .admitted && decide (o.admAt < v.clk.t0 + start) && o.bufLeft == 0 && v.fenceClear o (v.clk.t0 + start) && v.targetClear o

/-- The operation that takes a cleat: the earliest admitted of those that fit and are ready (05 R163). -/
def Vexone.taker (v : Vexone) (e : Entry) : Option Op :=
  (v.ops.filter fun o => o.fits e && v.ready o e.start).foldl
    (fun a o => match a with
      | none => some o
      | some x => if o.seq < x.seq then some o else some x) none

/-! ## Checks (05 R166) and completion (15 R526) -/

/-- What the checks of an operation find, in the order of 05 R166. -/
structure Checks where
  badArg : Bool := false
  undeclared : Bool := false
  handle : Bool := false
  egress : Bool := false
  clock : Option Nat := none
  prot : Option Nat := none
  state : Option Nat := none
  late : Option (Nat × Nat) := none    -- ST_BELOW_MIN, ST_LIMIT, ST_PAIR_CONFLICT and the opcode's own, with DETAIL
  deriving DecidableEq, Repr

/-- The first check that fails, with its DETAIL (05 R166); a U operation fails only with ST_BAD_ARG (05 R167). -/
def Checks.first (c : Checks) (u needImage hasImage reserved : Bool) : Option (Nat × Nat) :=
  if u then (if reserved || c.badArg then some (stBadArg, 0) else none)
  else if needImage && !hasImage then some (stNoImage, 0)
  else if reserved || c.badArg then some (stBadArg, 0)
  else if c.undeclared then some (stNotDeclared, 0)
  else if c.handle then some (stHandle, 0)
  else if c.egress then some (stEgress, 0)
  else firstSome [c.clock.map (stClock, ·), c.prot.map (stProtected, ·), c.state.map (stState, ·), c.late]

/-- The last edge of execution in a cleat (05 R166, 15 R526). -/
def execEnd (o : Op) (e : Entry) : Nat := e.start + (if o.cls = .u then 63 else 95)

/-- An operation's completion at the end of its execution in a cleat. -/
def Vexone.finish (v : Vexone) (o : Op) (e : Entry) (status detail : Nat) (result : List Byte := []) : Vexone :=
  v.completeAt o.place status detail v.clk.frame (execEnd o e) (v.clk.t0 + execEnd o e + 1) result

/-- A completion with ST_OK. -/
def Vexone.done (v : Vexone) (o : Op) (e : Entry) (detail : Nat := 0) : Vexone := v.finish o e stOk detail

/-- The fan watchdog reloads when an operation of the owner begins execution (14 R505). -/
def Vexone.fanKick (v : Vexone) (m : Master) : Vexone :=
  if v.fwd.armed && v.isOwner m then { v with fwd := { v.fwd with count := v.fwd.limit } } else v

/-! ## Pairs written by operations (05 R169) -/

/-- HALVES: A1[1:0]. -/
def Op.halves (o : Op) : Nat := o.a 1 1 0

/-- The carried value of a half; bit 0 of HALVES is the first half. -/
def Op.half (o : Op) (k : Nat) (x : Int) : Option Int := if o.halves >>> k % 2 = 1 then some x else none

/-- A half as it would stand: carried, else pending, else in force. -/
def halfStands (carried pending : Option Int) (inForce : Int) : Int := (carried.or pending).getD inForce

end Sys2Proof.Machine
end

