-- ==== Sys2Proof/Machine/Field.lean ====
section
/-! DEFINITION. The field engine (spec 07): segments, furls, reef, the field activities, the field operations of 05
Table 5-3 and the field protections. -/

namespace Sys2Proof.Machine

open Sys2Proof

/-! ## Segments -/

/-- A segment is driven while an entry holds its track; otherwise a carrying segment coasts (07 Table 7-2). -/
def Seg.driven (s : Seg) (edge : Nat) : Bool := s.phase == .carrying && !s.rest && decide (edge < s.holdTo)

/-- STATE of 07 Table 7-12; one that a REFRESH holds stopped has no carrier and is not furled: dark. -/
def Seg.code (s : Seg) (edge : Nat) : Nat :=
  match s.phase with
  | .furled => 0
  | .dark => 1
  | .carrying => if s.rest then 1 else if s.driven edge then 2 else 3
  | .faultOff => 4

/-! ### The step grid (07 R231, R232): four steps a CCLK, 64 a carrier period -/

/-- The step of a period at which leg A rises under a vector, and leg B. -/
def riseA (p s : Nat) : Nat := (p + 64 - s / 2) % 64
def riseB (p s : Nat) : Nat := (p + (s + 1) / 2) % 64

/-- The first step at or after one that lies at a given step of its period. -/
def stepAtOrAfter (r step : Nat) : Nat := step + (r + 64 - step % 64) % 64

/-- The first zero crossing at or after a step of the frame, where no rise comes before step `first` (07 R230, R237). -/
def zeroCross (p s first step : Nat) : Nat := stepAtOrAfter (riseA p s) (max first step)

/-- The CCLK edge at which what happened at a step is seen. -/
def edgeOf (step : Nat) : Nat := (step + 3) / 4

/-- sin (pi S / 64) in millionths, for S from 0 to 32: the fundamental of the bridge at amplitude S (07 R232; log entry 5). -/
def sineOf (s : Nat) : Nat :=
  [0, 49068, 98017, 146730, 195090, 242980, 290285, 336890, 382683, 427555, 471397, 514103, 555570, 595699, 634393, 671559, 707107, 740951, 773010, 803208, 831470, 857729, 881921, 903989, 923880, 941544, 956940, 970031, 980785, 989177, 995185, 998795, 1000000].getD s 0

/-- The amplitude of a dip: the S whose fundamental is nearest to 90 % of that of the amplitude applied (08 R285). -/
def dipTo (s : Nat) : Nat :=
  let err := fun (x : Nat) => ((10 * sineOf x : Int) - 9 * sineOf s).natAbs
  (List.range 33).foldl (fun a x => if err x < err a then x else a) 0

/-- The steps since a leg's latest rise, within a period. -/
def legAge (rise step : Nat) : Nat := (step + 64 - rise % 64) % 64

/-- The on-commands of a leg's high and low side under a vector taken at a step: turn-on is delayed by DEAD, turn-off is not (07
R234). Before its first rise the leg stays low (07 R237). -/
def legCommands (rise taken dead step : Nat) : Bool × Bool :=
  let age := legAge rise step
  if taken + 16 + age ≤ step then (decide (dead ≤ age ∧ age < 32), decide (32 + dead ≤ age)) else (false, decide (taken + dead ≤ step))

/-- The shoot-through interlock: with both on-commands present both outputs are off (07 R235). -/
def interlock (c : Bool × Bool) : Bool × Bool := (c.1 && !c.2, c.2 && !c.1)

/-- The gate outputs of a segment's legs: HO and LO of leg A, HO and LO of leg B. -/
structure LegOut where
  a : Bool × Bool
  b : Bool × Bool
  deriving DecidableEq, Repr

/-- The amplitude at a CCLK time: lowered during a dip of the downlink, which lasts 512 CCLK (08 R285). -/
def Seg.ampAt (x : Seg) (t : Nat) : Nat :=
  if x.dips.any fun d => decide (d ≤ t ∧ t < d + 512) then dipTo x.s else x.s

/-- The outputs of a segment at a step (07 Table 7-2, R232 to R235, R241, R242): the vector while it carries, both low sides in
a refresh pulse, in a REFRESH and in the wait for its bootstraps, and else nothing. -/
def Seg.legs (x : Seg) (step : Nat) : LegOut :=
  let low : Bool × Bool := interlock (false, true)
  let off : Bool × Bool := interlock (false, false)
  match x.phase with
  | .faultOff => { a := off, b := off }
  | .carrying =>
    if x.rest then { a := low, b := low }
    else
      let s := x.ampAt (step / 4)
      { a := interlock (legCommands (riseA x.p s) x.from_ x.dead step)
        b := interlock (legCommands (riseB x.p s) x.from_ x.dead step) }
  | _ => if x.waitBst || decide (step < 4 * x.pulseTo) then { a := low, b := low } else { a := off, b := off }

/-- The gate currents of a drive code in mA: source and sink (07 Table 7-3). -/
def fieldSource (k : Nat) : Nat := 250 * (k + 1)
def fieldSink (k : Nat) : Nat := 500 * (k + 1)

/-- The amplitude cap of a lane (07 Table 7-9). -/
def Lane.cap (l : Lane) : Nat :=
  match l.level.val with
  | 0 => 32
  | 1 => l.ampCap
  | 2 => l.ampCap / 2
  | _ => min l.ampCap 4

/-- The field-bus cap of a lane (07 Table 7-9). -/
def Lane.fbCap (l : Lane) (fbusMax : Nat) : Nat :=
  match l.level.val with
  | 0 => fbusMax
  | 3 => min l.busCap 400
  | _ => l.busCap

/-- The field-bus cap that the lanes call for: the least of FBUS_MAX and the caps of the lanes with an unfurled segment (07 R253). -/
def Vexone.fbCap (v : Vexone) : Nat :=
  (List.finRange 4).foldl
    (fun a l => if v.unfurled &&& laneSegs l.val != 0 then min a (v.lanes[l].fbCap v.fbusMax) else a) v.fbusMax

/-- The step of the present edge. -/
def Vexone.step4 (v : Vexone) : Nat := 4 * v.now

/-- The steps at which this frame's carrier periods begin are those that leave the rest of the frame's first step. -/
def Vexone.frameStep (v : Vexone) : Nat := 4 * v.clk.t0

/-- The step of a segment's first zero crossing at or after a step (07 R230). -/
def Vexone.crossing (v : Vexone) (x : Seg) (step : Nat) : Nat :=
  v.frameStep + zeroCross x.p x.s (x.from_ + 16 - v.frameStep) (step - v.frameStep)

/-- The step of the first period boundary at or after the present edge (07 R237). -/
def Vexone.boundary (v : Vexone) : Nat := v.frameStep + stepAtOrAfter 0 (v.step4 - v.frameStep)

/-- A change of a segment left for a step. -/
def Vexone.segDue (v : Vexone) (s : SegId) (step : Nat) (d : SegDo) : Vexone :=
  (v.modSeg s fun x => { x with act := some (step, d) }).leave (edgeOf step) (.segment s)

/-- Whether a segment's carrier runs. -/
def Seg.runs (x : Seg) : Bool := x.phase == .carrying && !x.rest

/-- Whether a stop of a segment waits for its crossing. -/
def Seg.stopping (x : Seg) : Bool :=
  match x.act with
  | some (_, .furl) => true
  | some (_, .dark) => true
  | _ => false

/-- A vector falls due on a running segment: it changes at its first zero crossing, unless it stops there; the vector that it
has changes nothing (07 R230, R237). -/
def Vexone.vectorDue (v : Vexone) (s : SegId) (p a : Nat) : Vexone :=
  let x := v.segs[s]
  if !x.runs || x.stopping then v
  else if x.p = p ∧ x.s = a then v.modSeg s fun x => { x with act := none }
  else v.segDue s (v.crossing x v.step4) (.vector p a)

/-- The carrier vector of a segment as its lane's cap lets it be (07 R233, R239). -/
def Vexone.carrierOf (v : Vexone) (s : SegId) : Nat × Nat := (v.segs[s].cp, min v.segs[s].cs v.lanes[laneOf s].cap)

/-- A segment whose carrier runs falls back to its carrier vector. -/
def Vexone.coast (v : Vexone) (s : SegId) : Vexone := v.vectorDue s (v.carrierOf s).1 (v.carrierOf s).2

/-- An entry holds a segment until an edge. -/
def Seg.held (x : Seg) (hold : Nat) (inP : Bool) (tick : Nat) : Seg := { x with holdTo := hold, inP := inP, refreshAt := tick }

/-- An entry applies a vector to a segment until an edge (07 R233, R237, R242): a carrying segment changes its vector at its zero
crossing, a dark one starts to carry at the next period boundary, or waits, both low sides on, for its bootstraps; furled segments
are left (07 R238). A segment that is stopping is left to stop. -/
def Vexone.applyVector (v : Vexone) (s : SegId) (p a hold : Nat) (inP : Bool) : Vexone :=
  let a := min a v.lanes[laneOf s].cap
  let x := v.segs[s]
  match x.phase with
  | .carrying =>
    ((v.modSeg s fun x => x.held hold inP v.clk.ticks).vectorDue s p a).leave (v.clk.t0 + hold) (.release s)
  | .dark =>
    if x.skipped || x.guarded then v
    else
      let v := (v.modSeg s fun x => { x.held hold inP v.clk.ticks with want := (p, a) }).leave (v.clk.t0 + hold) (.release s)
      if x.bstA && x.bstB then v.segDue s v.boundary (.start p a)
      else v.modSeg s fun x => { x with waitBst := true, waitTo := v.now + 512 }
  | _ => v

/-- The segments of a mask. -/
def segsOf (m : BitVec 16) : List SegId := (List.finRange 16).filter fun s => m.getLsbD s.val

/-- Every segment of a mask changed. -/
def Vexone.forSegs (v : Vexone) (m : BitVec 16) (f : Vexone → SegId → Vexone) : Vexone := (segsOf m).foldl f v

/-- A P cleat in progress on a segment is cut: the cleat is not held to its end, FIELD_LOSS counts, and the copy and the
report that it carried are lost (07 Table 7-11; 08 R277, R288, R289). -/
def Vexone.cutCleat (v : Vexone) (s : SegId) : Vexone :=
  let x := v.segs[s]
  match v.sch.bind.find? (fun b => b.tracks.getLsbD s.val && b.cur != 0) with
  | some b =>
    if x.inP && x.driven v.clk.edge then
      let v : Vexone := { v with sch := { v.sch with bind := v.sch.bind.map fun y =>
        if y.handle = b.handle then { y with cur := 0, served := y.served - 1, frag := false } else y } }
      let v := v.modCtx b.handle fun c =>
        { c with fieldLoss := satTo 255 (c.fieldLoss + 1), missedRep := satTo 255 (c.missedRep + bit (b.frag && c.tagged)) }
      let v := v.forSegs b.tracks fun v s => v.modSeg s fun x => { x with dips := x.dips.filter (· < v.now) }
      if b.frag then
        v.modLoop b.handle fun l =>
          let dir := l.dir.map fun d =>
            if b.cells = 0 then d else if b.cur = 1 then { d with sentA := 0 } else { d with sentB := 0 }
          { l with bMissed := l.bMissed + 1, dir := dir, missed := true, repAt := l.repAt.map fun _ => v.now }
      else v
    else v
  | none => v

/-- The pocket latched on a segment at this edge: the board latches 16 CCLK into a selection frame (18 R605, Table 18-1). -/
def Vexone.pocketOf (v : Vexone) (s : SegId) : Nat :=
  match v.segs[s].sel with
  | some (f, p) => if f + 16 ≤ v.now then p else v.segs[s].pocket
  | none => v.segs[s].pocket

/-- A selection frame not yet begun is not sent (18 R627). -/
def Seg.dropSel (x : Seg) (now : Nat) : Seg :=
  match x.sel with
  | some (f, _) => if now < f then { x with sel := none } else x
  | none => x

/-- The selection frame of a segment that has not begun leaves the port's schedule. -/
def Vexone.unsent (v : Vexone) (s : SegId) : Vexone :=
  { v with out := v.out.filter fun o => match o with
      | .pocket f k _ => !(k == s && decide (v.now < f))
      | _ => true }

/-- The change under way dropped, with every wait. -/
def Seg.still (x : Seg) : Seg := { x with act := none, rest := false, waitBst := false, holdTo := 0, inP := false }

/-- A segment becomes furled, with its refresh pulse (07 R241, R251); counted where it was unfurled. -/
def Vexone.furlNow (v : Vexone) (s : SegId) : Vexone :=
  ((v.cutCleat s).unsent s).modSeg s fun x =>
    if x.live then
      { (x.dropSel v.now).still with phase := .furled, cnt := vcount x.cnt 3, refreshAt := v.clk.ticks, pulseTo := v.now + 64 }
    else x

/-- The carrier stops on a segment, which is then dark, with its refresh pulse (07 R239, R241). -/
def Vexone.darkNow (v : Vexone) (s : SegId) : Vexone :=
  (v.cutCleat s).modSeg s fun x =>
    if x.live then { x.still with phase := .dark, refreshAt := v.clk.ticks, pulseTo := v.now + 64 } else x

/-- A furl falls due on a segment (07 R251): a running one furls at its first zero crossing at or after a step, one whose carrier
does not run at once; of several furls the first crossing counts (07 R264). -/
def Vexone.furlFrom (v : Vexone) (s : SegId) (step : Nat) : Vexone :=
  let x := v.segs[s]
  if !x.live then v
  else if !x.runs then v.furlNow s
  else
    match x.act with
    | some (_, .furl) => v
    | _ => v.segDue s (v.crossing x step) .furl

def Vexone.furl (v : Vexone) (s : SegId) : Vexone := v.furlFrom s v.step4

/-- The furl of every segment falls due. -/
def Vexone.furlAll (v : Vexone) : Vexone := v.forSegs 0xFFFF Vexone.furl

/-- A stop falls due on a segment, which is then dark (07 R239): a running one stops at its first zero crossing, one that is to
start does not. -/
def Vexone.darken (v : Vexone) (s : SegId) : Vexone :=
  let x := v.segs[s]
  if !x.live || x.stopping then v
  else if !x.runs then v.modSeg s fun x => { x.still with phase := .dark }
  else v.segDue s (v.crossing x v.step4) .dark

/-- A REFRESH stops a running segment at its zero crossing (07 Table 7-4). -/
def Vexone.restFor (v : Vexone) (s : SegId) (till : Nat) : Vexone :=
  let x := v.segs[s]
  if !x.runs || x.stopping then v else v.segDue s (v.crossing x v.step4) (.rest till)

/-- The change under way on a segment happens (07 R230, R237, R239, R251; Table 7-4). -/
def Vexone.segAct (v : Vexone) (s : SegId) : Vexone :=
  match v.segs[s].act with
  | some (step, d) =>
    if v.now < edgeOf step then v
    else
      let v := v.modSeg s fun x => { x with act := none }
      match d with
      | .furl => v.furlNow s
      | .dark => v.darkNow s
      | .rest till => (v.modSeg s fun x => { x with rest := true, pulseTo := till, inP := false }).leave till (.release s)
      | .vector p a => v.modSeg s fun x => { x with p := p, s := a, from_ := step }
      | .start p a =>
        v.modSeg s fun x =>
          { x with p := p, s := a, from_ := step, rest := false, phase := .carrying, refreshAt := v.clk.ticks
                   cnt := if x.phase = .dark then vcount x.cnt 4 else x.cnt }
  | none => v

/-- An entry has ended that held a segment (07 R239; Table 7-4): a running one falls back to its carrier vector, and one that a
REFRESH held stopped resumes on it at the next period boundary. -/
def Vexone.segRelease (v : Vexone) (s : SegId) : Vexone :=
  let x := v.segs[s]
  if v.clk.edge < x.holdTo ∨ x.phase ≠ .carrying then v
  else if x.rest then
    if x.pulseTo ≤ v.now then v.segDue s v.boundary (.start (v.carrierOf s).1 (v.carrierOf s).2) else v
  else v.coast s

/-- The handle bound in this frame to a pair that holds a segment. -/
def Vexone.boundTo (v : Vexone) (s : SegId) : Option (BitVec 12) :=
  (v.sch.bind.find? fun b => b.tracks.getLsbD s.val).map (·.handle)

/-- The slew in progress of the field bus: CCLK since it began, and in all (07 Table 7-7). -/
def Vexone.slewProg (v : Vexone) : Nat × Nat :=
  match v.fb.slewAt with
  | some t => (v.now - t, v.fb.slewLen)
  | none => (0, 0)

/-- The EV_SEG_FAULT payload (07 Table 7-7). -/
def Vexone.segPayload (v : Vexone) (code : Nat) (s : SegId) : List Byte :=
  let x := v.segs[s]
  let prior := x.code v.clk.edge + (if x.inP && x.driven v.clk.edge then 128 else 0)
  let h := match v.boundTo s with | some h => h.toNat | none => 0xFFFF
  payload [(2, code), (1, s.val), (1, prior), (2, h), (2, v.fb.tgt), (4, v.slewProg.1), (4, v.slewProg.2)]

/-- A pass bound to a pair that a fault cut takes no further P cleat of that pair in this frame (07 R250). -/
def Vexone.loseBinding (v : Vexone) (s : SegId) : Vexone :=
  { v with sch := { v.sch with bind := v.sch.bind.map fun b => if b.tracks.getLsbD s.val then { b with lost := true } else b } }

/-- A fault on a segment: latched with EV_SEG_FAULT, its counter raised, a pending UNFURL of it voided (16 R564). -/
def Vexone.segFault (v : Vexone) (code : Nat) (s : SegId) (ctr : Option Nat) : Vexone :=
  let pl := v.segPayload code s
  let v := v.latchEv code (oneHot 16 s.val) 0x0601 pl
  let v := match ctr with
    | some k => v.modSeg s fun x => { x with cnt := vcount x.cnt k }
    | none => v
  let v := v.loseBinding s
  (v.voidUnfurl (oneHot 16 s.val)).1

/-- The latched field fault of a segment, 0 when none (07 Table 7-12). -/
def Vexone.segLatched (v : Vexone) (s : Nat) : Option Nat := v.firstLatched [0x0601, 0x0602, 0x0603, 0x0604] s

/-- The fault that keeps a segment from an UNFURL: the latched one, unless a FAULT_CLEAR that has executed in this frame clears it
at the tick (05 R189; 07 R267). -/
def Vexone.segHeld (v : Vexone) (s : Nat) : Option Nat :=
  [0x0601, 0x0602, 0x0603, 0x0604].find? fun c => v.latched c s && !v.due.any fun d =>
    match d.set with
    | .faultClear named => named.any fun x => x.1 == c && x.2.getLsbD s
    | _ => false

/-! ## Field activities (07 Table 7-4) -/

/-- The real power of a segment measured over an entry that applies an amplitude (08 R276): the sums of the frame, and those of
the CARRIER runs. -/
def Vexone.measure (v : Vexone) (s : SegId) (uW amp dur : Nat) (run : Bool) : Vexone :=
  if v.segs[s].live then
    let x := (v.fb.vout * sineOf amp) ^ 2 * dur
    v.modSeg s fun g => { g with meter :=
      { g.meter with frmP := g.meter.frmP + uW * dur, frmX := g.meter.frmX + x
                     runP := g.meter.runP + (if run then uW * dur else 0), runX := g.meter.runX + (if run then x else 0)
                     runT := g.meter.runT + (if run then dur else 0) } }
  else v

/-- The loss of a segment that goes with a squared fundamental (08 R276). -/
def Meter.loss (m : Meter) (x : Nat) : Nat := m.kP * x / m.kX

/-- A pass has answered on a segment in this frame. -/
def Vexone.heardOn (v : Vexone) (m : BitVec 16) : Vexone :=
  v.forSegs m fun v s => v.modSeg s fun g => { g with meter := { g.meter with heard := true } }

/-- The frame ends: one in which the segment carried with no pass answering joins the bench. -/
def Meter.endFrame (m : Meter) : Meter :=
  { m with benP := if m.heard then m.benP else m.benP + m.frmP, benX := if m.heard then m.benX else m.benX + m.frmX
           frmP := 0, frmX := 0, heard := false, runP := 0, runX := 0, runT := 0
           lastP := m.runP, lastX := m.runX, lastT := m.runT }

/-- The bench closes: the loss coefficient is estimated from its frames, where it has any (08 R276). -/
def Meter.endBench (m : Meter) : Meter :=
  { m with kP := if m.benX = 0 then m.kP else m.benP, kX := if m.benX = 0 then m.kX else m.benX, benP := 0, benX := 0 }

/-- The carrier vector applied to the segments of an entry. -/
def Vexone.carry (v : Vexone) (e : Entry) : Vexone :=
  v.forSegs e.segs fun v s => v.applyVector s v.segs[s].cp v.segs[s].cs (e.start + e.dur) false

/-- Whether a session listens on a segment's pair (07 R256). -/
def Vexone.listening (v : Vexone) (s : SegId) : Bool :=
  v.sess.any fun x => x.listening && x.tracks.getLsbD s.val

/-- A diagnostic of a kind waiting for a unit completes at an edge (05 Table 5-9). -/
def Vexone.endDiag (v : Vexone) (test unit : Nat) (edge : Nat) (fail : Option Nat) : Vexone :=
  let mine := v.diags.filter fun d => d.test == test && d.unit == unit
  let v := { v with diags := v.diags.filter fun d => !(d.test == test && d.unit == unit) }
  mine.foldl (fun v d =>
    let (st, dt) := match fail with | some c => (stTestFail, c) | none => (stOk, 0)
    v.completeAt d.place st dt v.clk.frame edge (v.clk.t0 + edge + 1)) v

/-- The end of a SEG_DIAG on a segment that it tested. -/
def Vexone.segDiag (v : Vexone) (s : SegId) (failed : Bool) : Vexone :=
  if failed then
    let pl := v.segPayload 0x0604 s
    ((v.latchEv 0x0604 (oneHot 16 s.val) 0x0601 pl).voidUnfurl (oneHot 16 s.val)).1.endDiag 1 s.val v.clk.edge (some 0x0604)
  else v.endDiag 1 s.val v.clk.edge none

/-! ## Field operations (05 Table 5-3) -/

/-- SEGS: A0[15:0]. -/
def Op.segMask (o : Op) : BitVec 16 := (o.arg 0).extractLsb' 0 16

/-- A mask names a segment that the image does not declare. -/
def Vexone.segsUndeclared (v : Vexone) (m : BitVec 16) : Bool := m &&& ~~~v.declSegs != 0

/-- The 0x01 code in force (05 Table 5-2, ST_CLOCK): the cause on the backup clock, else the lowest latched code. -/
def Vexone.clockCode (v : Vexone) : Nat :=
  if v.onBackup then 0x0100 + v.clk.cause.toNat
  else (([0x0101, 0x0102, 0x0103, 0x0104, 0x0105, 0x0108].find? fun c => v.anyLatched c)).getD 0

/-- Whether the clock or the follower state forbids an UNFURL (01 R39, R44). -/
def Vexone.clockRefuses (v : Vexone) : Bool :=
  v.onBackup || (v.fr.role == 2 && !(v.fr.st == .locked && v.fr.aligned))

/-- The lane or segment that an operation names. -/
def Op.lane (o : Op) : LaneId := Fin.ofNat 4 o.target

def Op.seg (o : Op) : SegId := Fin.ofNat 16 o.target

end Sys2Proof.Machine
end

