-- ==== Sys2Proof/Machine/Motion.lean ====
section
/-! DEFINITION. Flap motion, the motor bus and the egress plan (spec 12; 13 section 13.6): motor states and moves, edge
qualification, the brake chopper, the motion operations of 05 Table 5-7 and the egress sequencer's lanes. -/

namespace Sys2Proof.Machine

open Sys2Proof

/-! ## Set-up in force (12 Table 12-1, R441) -/

/-- A field of motor n's set-up in force. -/
def Vexone.mf (v : Vexone) (n : MotorId) (o hi lo : Nat) : Nat := fld (v.motorReg n.val o) hi lo

def Vexone.endZone (v : Vexone) (n : MotorId) : Nat := v.mf n 0x00 23 16

def Vexone.creep (v : Vexone) (n : MotorId) : Nat := v.mf n 0x00 15 0

def Vexone.openMax (v : Vexone) (n : MotorId) : Nat := v.mf n 0x08 15 0

def Vexone.brkAcc (v : Vexone) (n : MotorId) : Nat := v.mf n 0x0C 31 16

/-- OL_DUTY in 0.1 percent. -/
def Vexone.olDuty (v : Vexone) (n : MotorId) : Nat := 10 * v.mf n 0x04 6 0

/-- EG_POS, EG_VMAX, EG_ACC of the plan in force. -/
def Vexone.egPos (v : Vexone) (n : MotorId) : Nat := fld (v.force (0x0884 + 8 * n.val)) 15 0

def Vexone.egVmax (v : Vexone) (n : MotorId) : Nat := fld (v.force (0x0884 + 8 * n.val)) 31 16

def Vexone.egAcc (v : Vexone) (n : MotorId) : Nat := fld (v.force (0x0888 + 8 * n.val)) 15 0

/-- The motor's mode is hall and it does not step open loop. -/
def Vexone.hallMode (v : Vexone) (n : MotorId) : Bool := v.motorMode n.val == 0

/-- The plan's entry of the lane of motor n, while the sequencer is active. -/
def Vexone.egLane (v : Vexone) (n : MotorId) : Option EgressLane :=
  if v.eg.active then v.eg.plan.find? fun l => l.lane == n else none

/-! ## Commutation (12 Table 12-2) -/

/-- The next code of the opening sequence; an invalid code has none and is answered as it is. -/
def nextCode (c : BitVec 3) : BitVec 3 :=
  match c.toNat with
  | 1 => 3 | 3 => 2 | 2 => 6 | 6 => 4 | 4 => 5 | 5 => 1 | n => BitVec.ofNat 3 n

/-- The code before, that is the next one of the closing sequence. -/
def prevCode (c : BitVec 3) : BitVec 3 :=
  match c.toNat with
  | 3 => 1 | 2 => 3 | 6 => 2 | 4 => 6 | 5 => 4 | 1 => 5 | n => BitVec.ofNat 3 n

/-- A code that a motor can show (12 R421). -/
def validCode (c : BitVec 3) : Bool := c != 0 && c != 7

/-- The next code in a direction of motion; DIR swaps the directions of the table (12 Table 12-1). -/
def Vexone.codeAfter (v : Vexone) (n : MotorId) (opening : Bool) (c : BitVec 3) : BitVec 3 :=
  if opening != decide (v.mf n 0x04 16 16 = 1) then nextCode c else prevCode c

/-! ## The legs (12 R415, R420 to R425; 07 R235) -/

/-- A PWM period in CCLK; each divides a frame and starts at the tick (12 R422). -/
def pwmPeriod (code : Nat) : Nat :=
  match code with
  | 0 => 10848 | 1 => 9040 | 2 => 7232 | _ => 5424

/-- The duty as a count of CCLK of its period (12 R422); a duty is in 0.1 percent. -/
def pwmDuty (period : Nat) (duty : Int) : Nat := period * duty.natAbs / 1000

/-- The high and the low leg of a code for opening torque, and for closing torque (12 Table 12-2); none for an invalid code. -/
def torqueLegs (code : BitVec 3) (opening : Bool) : Option (Nat × Nat) :=
  let x := match code.toNat with
    | 1 => some (0, 1) | 3 => some (0, 2) | 2 => some (1, 2) | 6 => some (1, 0) | 4 => some (2, 0) | 5 => some (2, 1) | _ => none
  if opening then x else x.map fun q => (q.2, q.1)

/-- Three legs of one role. -/
def allLegs (r : LegRole) : Vector LegRole 3 := Vector.replicate 3 r

/-- The code that drives the legs: where the motor steps, or idles in hall mode by its halls (12 R421, R424). -/
def Vexone.driveCode (v : Vexone) (n : MotorId) : BitVec 3 :=
  let x := v.motors[n]
  if v.hallMode n && x.st == .idle then x.hall else x.expect

/-- The direction of the torque: that of the motion, or its opposite for a negative duty; DIR swaps the columns (12 R421, R427). -/
def Vexone.torqueOpens (v : Vexone) (n : MotorId) : Bool :=
  let x := v.motors[n]
  (x.fwd == decide (0 ≤ x.duty)) != decide (v.mf n 0x04 16 16 = 1)

/-- What each leg of a motor does in its state (12 Table 12-3, R423). -/
def Vexone.legRoles (v : Vexone) (n : MotorId) : Vector LegRole 3 :=
  let x := v.motors[n]
  match x.st with
  | .disabled | .faultOff => allLegs .off
  | .hold => allLegs (if x.lowHold ∨ v.mf n 0x04 13 13 = 0 then .low else .high)
  | _ =>
    if v.motorMode n.val = 2 ∧ x.move.isNone then
      Vector.ofFn fun (k : Fin 3) =>
        if !x.pins.getLsbD (2 * k.val) then .off else if x.pins.getLsbD (2 * k.val + 1) then .high else .low
    else
      match torqueLegs (v.driveCode n) (v.torqueOpens n) with
      | some (h, l) => Vector.ofFn fun (k : Fin 3) => if k.val = h then .pwm else if k.val = l then .low else .off
      | none => allLegs .off

/-- The ideal instants of a leg: its high side and its low side at a CCLK time (12 R422). -/
def Vexone.legIdeal (v : Vexone) (n : MotorId) (k : Fin 3) (t : Nat) : Bool × Bool :=
  let x := v.motors[n]
  let period := pwmPeriod (v.mf n 0x04 15 14)
  let on := decide ((t + (period - v.clk.t0 % period)) % period < pwmDuty period x.duty)
  match (if t < x.turnAt then x.legsWas else v.legRoles n)[k] with
  | .off => (false, false)
  | .low => (false, true)
  | .high => (true, false)
  | .pwm => (on, !on)

/-- The gate outputs of a leg at a CCLK time: each side turns on DEAD after its ideal instant and off at the instant, behind the
interlock (12 R415). -/
def Vexone.motorLeg (v : Vexone) (n : MotorId) (k : Fin 3) (t : Nat) : Bool × Bool :=
  let span := (List.range (v.motors[n].dead + 1)).map fun d => v.legIdeal n k (t - d)
  interlock (span.all (·.1), span.all (·.2))

/-- A change of a motor that may turn its legs: what they did stands until the change takes effect, `late` CCLK on. -/
def Vexone.turning (v : Vexone) (n : MotorId) (late : Nat) (f : Vexone → Vexone) : Vexone :=
  let x := v.motors[n]
  let old := if v.now < x.turnAt then x.legsWas else v.legRoles n
  let w := f v
  if w.legRoles n = v.legRoles n then w else w.modMotor n fun y => { y with legsWas := old, turnAt := v.now + late }

/-! ## Velocity and position -/

/-- CCLK of one millisecond: the scale of a profile velocity (12 R427). -/
def velUnit : Nat := 216960

/-- Measured velocity as a fraction in edges/s: the profile's where the motor steps open loop, else 216,960,000 over the
last interval; 0 with no interval (12 R427, R424). -/
def Vexone.velocity (v : Vexone) (n : MotorId) : Nat × Nat :=
  let x := v.motors[n]
  if v.motorMode n.val == 1 || x.move.any (·.openLoop) then (x.vset, velUnit)
  else if x.interval = 0 then (0, 1) else (216960000, x.interval)

/-- The measured velocity in whole edges/s. -/
def Vexone.vel (v : Vexone) (n : MotorId) : Nat := (v.velocity n).1 / (v.velocity n).2

/-- The measured velocity exceeds CREEP (12 Table 12-4). -/
def Vexone.fast (v : Vexone) (n : MotorId) : Bool := decide (v.creep n * (v.velocity n).2 < (v.velocity n).1)

/-- A correction lies within the last 433,920 CCLK (12 R434). -/
def Vexone.isCorrected (v : Vexone) (n : MotorId) : Bool :=
  match v.motors[n].corrected with
  | some t => decide (v.now < t + 433920)
  | none => false

/-- Edges from the position to a target; with a correction the position counts one edge further towards it (12 R434). -/
def Vexone.toGo (v : Vexone) (n : MotorId) (target : Nat) (adv : Bool) : Nat :=
  ((target : Int) - v.motors[n].pos).natAbs - bit adv

/-! ## Records and events (12 Table 12-6, R446) -/

def MotorSt.code : MotorSt → Nat
  | .disabled => 0
  | .hold => 1
  | .idle => 2
  | .moving => 3
  | .braking => 4
  | .faultOff => 5

/-- FLAGS of 12 Table 12-6. -/
def Vexone.motorFlags (v : Vexone) (n : MotorId) : Nat :=
  let x := v.motors[n]
  pack [(bit x.homed, 0), (bit (v.isCorrected n), 1), (bit (v.egLane n).isSome, 2), (bit x.fallback, 3),
        (v.motorMode n.val, 4)]

/-- The EV_MOTION payload of a motor. -/
def Vexone.motionPayload (v : Vexone) (n : MotorId) (code kind : Nat) : List Byte :=
  let x := v.motors[n]
  payload [(2, code), (1, n.val), (1, kind), (1, x.st.code), (1, v.motorFlags n), (2, twos 16 x.pos),
           (2, satTo 0xFFFF (v.vel n)), (2, v.mbus.vbus), (2, satTo 0xFFFF x.rejSince), (1, x.hall.toNat)]

/-- The EV_MOTION payload of the motor bus: motor 4. -/
def Vexone.busPayload (v : Vexone) (code kind : Nat) : List Byte :=
  payload [(2, code), (1, 4), (1, kind), (1, 0), (1, 0), (2, 0), (2, 0), (2, v.mbus.vbus)]

/-- EV_MOTION of a motor; its count of rejected edges begins anew. -/
def Vexone.evMotion (v : Vexone) (n : MotorId) (kind : Nat) : Vexone :=
  (v.emit 0x0901 (v.motionPayload n 0 kind)).modMotor n fun x => { x with rejSince := 0 }

/-- A fault on a motor: latched with EV_MOTION kind 1. -/
def Vexone.motorFault (v : Vexone) (n : MotorId) (code : Nat) : Vexone :=
  (v.latchEv code (oneHot 16 n.val) 0x0901 (v.motionPayload n code 1)).modMotor n fun x => { x with rejSince := 0 }

/-! ## States and moves (12 Tables 12-3, 12-4) -/

/-- A motor enters a state; a change records EV_MOTION. Outside moving, idle and braking it has no set-point. -/
def Vexone.motorTo (v : Vexone) (n : MotorId) (st : MotorSt) : Vexone :=
  if v.motors[n].st = st then v
  else
    let v := v.turning n 0 fun v => v.modMotor n fun x =>
      let x : Motor := { x with st := st, stWas := x.st, stAt := v.now }
      if st = .idle || st = .moving || st = .braking then x
      else { x with vset := 0, vLast := 0, integ := 0, duty := 0, lowHold := false }
    v.evMotion n 0

/-- A brake-hold takes effect 16 CCLK after its cause, and then its DEAD (12 Table 12-2a). -/
def Vexone.lateHold (v : Vexone) (n : MotorId) : Vexone :=
  v.modMotor n fun x => if x.turnAt = v.now then { x with turnAt := v.now + 16 } else x

/-- A short has taken a motor out of a state in this very CCLK: what else is judged there latches too (12 R454). -/
def Vexone.shortNow (v : Vexone) (n : MotorId) : Bool :=
  let x := v.motors[n]
  x.st == .faultOff && x.stAt == v.now && (x.stWas == .moving || x.stWas == .braking)

/-- The move of a motor ends with a status and DETAIL; EV_MOTION kind 2. -/
def Vexone.endMove (v : Vexone) (n : MotorId) (status detail : Nat) : Vexone :=
  match v.motors[n].move with
  | none => v
  | some mv =>
    let v := match mv.place with
      | some p => v.complete p status detail
      | none => v
    (v.modMotor n fun x => { x with move := none }).evMotion n 2

/-- The plan's entry of a lane changed. -/
def Vexone.setLane (v : Vexone) (n : MotorId) (f : EgressLane → EgressLane) : Vexone :=
  { v with eg := { v.eg with plan := v.eg.plan.map fun (x : EgressLane) => if x.lane = n then f x else x } }

/-- A lane of the plan is done: EV_MOTION kind 4. -/
def Vexone.laneDone (v : Vexone) (n : MotorId) : Vexone :=
  match v.egLane n with
  | some l =>
    if l.begun && !l.done then
      (v.setLane n fun x => { x with done := true }).evMotion n 4
    else v
  | none => v

/-- A move that reached its target (12 R427, R443): a flap move leaves the motor idle, an egress move in brake-hold. -/
def Vexone.arrive (v : Vexone) (n : MotorId) : Vexone :=
  let v := v.modMotor n fun x => { x with cnt := vcount x.cnt 4, vset := 0, integ := 0, duty := 0 }
  if (v.egLane n).isSome then ((v.motorTo n .hold).endMove n stOk 0).laneDone n
  else (v.motorTo n .idle).endMove n stOk (twos 16 v.motors[n].pos)

/-- Settings of a motor that would add energy to it are voided (05 R188, 16 R564). -/
def Vexone.voidMotor (v : Vexone) (n : MotorId) : Vexone × Bool :=
  v.voidDue fun x => match x with | .motorRelease k => k == n | .flapMove k _ _ _ => k == n | _ => false

/-- An egress lane falls back to open-loop stepping at CREEP and OL_DUTY, with fault 0x0908 (12 R444). -/
def Vexone.fallBack (v : Vexone) (n : MotorId) : Vexone :=
  let steps := (v.egPos n : Int) - v.motors[n].pos + v.endZone n
  let v := (v.modMotor n fun x => { x with fallback := true }).motorFault n 0x0908
  if steps ≤ 0 then ((v.motorTo n .hold).endMove n stOk 0).laneDone n
  else
    (v.motorTo n .moving).modMotor n fun x =>
      { x with fwd := true, expect := (if validCode x.hall then x.hall else if validCode x.expect then x.expect else 1)
               vset := v.creep n * velUnit, duty := v.olDuty n, updAt := v.now, undo := none
               move := some { place := none, pos := v.egPos n, vmax := v.creep n, acc := v.egAcc n, homing := false,
                              steps := steps.toNat, openLoop := true } }

/-- A motion fault (12 R433, R432, R430, R429; Table 12-4): brake-hold at once and the move ends with ST_MOTION_FAULT. A
lane of the plan in hall mode falls back once; before its start frame it does so at that frame (12 R444). -/
def Vexone.motionFault (v : Vexone) (n : MotorId) (code : Nat) : Vexone :=
  let v := (v.voidMotor n).1.modMotor n fun x => { x with cnt := vcount x.cnt 3 }
  match v.egLane n with
  | some l =>
    if v.hallMode n && l.begun && !l.done && !v.motors[n].fallback then (v.motorFault n code).fallBack n
    else
      let v := ((v.motorTo n .hold).motorFault n code).endMove n stMotionFault code
      let v := if v.hallMode n && !l.begun then v.modMotor n fun x => { x with fallback := true } else v
      v.laneDone n
  | none => ((v.motorTo n .hold).motorFault n code).endMove n stMotionFault code

/-- Braking where the measured velocity exceeds CREEP, otherwise brake-hold: a motor that moves or idles (12 Table 12-4).
A move that it ends completes with a status. -/
def Vexone.brake (v : Vexone) (n : MotorId) (status : Nat) : Vexone :=
  if v.motors[n].st = .moving ∨ v.motors[n].st = .idle then
    let v := if v.fast n then (v.motorTo n .braking).modMotor n fun x => { x with brakeTicks := v.clk.ticks }
             else v.motorTo n .hold
    v.endMove n status 0
  else v

/-- A motor brake-holds at once (12 Table 12-4), except one that is disabled or in fault-off. The move of an egress lane stands,
and the plan's next EGRESS_STEP carries it on, for nothing but its end stops the sequencer (03 R111, 13 R479; log entry 84). -/
def Vexone.holdNow (v : Vexone) (n : MotorId) (status detail : Nat) : Vexone :=
  if v.motors[n].st = .disabled ∨ v.motors[n].st = .faultOff then v
  else
    let v := (v.motorTo n .hold).lateHold n
    if (v.egLane n).any fun l => l.begun && !l.done then v else v.endMove n status detail

/-- The code from which a move starts: the halls', and open loop that of the last step; where neither is a code, 0b001 (log entry
120). -/
def Motor.startCode (x : Motor) (openLoop : Bool) : BitVec 3 :=
  if !openLoop then x.hall else if validCode x.expect then x.expect else if validCode x.hall then x.hall else 1

/-- A move begins: the motor moves, from a standstill, in the direction of its target (12 R427, R428, R432). -/
def Vexone.startMove (v : Vexone) (n : MotorId) (mv : Move) (opening : Bool) : Vexone :=
  (v.modMotor n fun x =>
    { x with move := some mv, fwd := opening, expect := x.startCode mv.openLoop, undo := none, tLast := none, interval := 0, edges := 0, extra := false,
             vset := 0, vLast := 0, integ := 0, updAt := v.now, startAt := v.now }).motorTo n .moving

/-! ## The motion update (12 R427) -/

/-- What the update chooses: 0 creep, 1 decelerate, 2 accelerate. `num / den` is the measured velocity. -/
def profileChoice (num den creep acc endZone r : Nat) (homing : Bool) : Nat :=
  if homing || decide (r ≤ endZone) then 0
  else if (r - endZone) * (2000 * acc) * (den * den) + creep * creep * (den * den) ≤ num * num then 1
  else 2

/-- The set-point after a choice; `dt` is in CCLK. -/
def profileSet (choice vset dt creep vmax acc : Nat) : Nat :=
  match choice with
  | 0 => creep * velUnit
  | 1 => max (vset - acc * dt) (creep * velUnit)
  | _ => min (vset + acc * dt) (vmax * velUnit)

/-- The velocity loop: integral and duty from the set-point and the measured velocity, rounded down (log entry 20). -/
def Vexone.velLoop (v : Vexone) (n : MotorId) : Vexone :=
  let (num, den) := v.velocity n
  let x := v.motors[n]
  let err : Int := (x.vset * den : Nat) - (num * velUnit : Nat)
  let d : Int := (velUnit * den : Nat)
  let integ := x.integ + (v.mf n 0x0C 7 0 * err) / d
  let duty := ((v.mf n 0x0C 15 8 * err + integ * d) * 10) / (256 * d)
  v.modMotor n fun x => { x with integ := integ, duty := clampI (-1000) 1000 duty }

/-- One motion update of a motor. -/
def Vexone.motionUpdate (v : Vexone) (n : MotorId) : Vexone := v.turning n 0 fun v =>
  let x := v.motors[n]
  let was := (x.vset, x.integ, x.duty, x.cnt[5], x.updAt)
  let dt := v.now - x.updAt
  let v' := match x.st, x.move with
    | .moving, some mv =>
      let (num, den) := v.velocity n
      let choice := fun adv => profileChoice num den (v.creep n) mv.acc (v.endZone n) (v.toGo n mv.pos adv) mv.homing
      let c := choice (v.isCorrected n)
      let v := v.modMotor n fun x =>
        { x with vset := profileSet c x.vset dt (v.creep n) mv.vmax mv.acc,
                 cnt := if c = choice false then x.cnt else vcount x.cnt 5 }
      if mv.openLoop then v.modMotor n fun x => { x with duty := v.olDuty n } else v.velLoop n
    | .idle, _ =>
      if v.motorMode n.val = 0 then (v.modMotor n fun x => { x with vset := 0 }).velLoop n
      else if v.motorMode n.val = 1 then v.modMotor n fun x => { x with duty := v.olDuty n }
      else v
    | .braking, _ =>
      let v := (v.modMotor n fun x => { x with vset := max (x.vset - v.brkAcc n * dt) (v.creep n * velUnit) }).velLoop n
      if v.fast n then v else v.motorTo n .hold
    | _, _ => v
  v'.modMotor n fun x => { x with updAt := v.now, undo := some was }

/-- What is judged before a motion update of the same CCLK (12 R447): that update is taken again after it. -/
def Vexone.beforeUpdate (v : Vexone) (n : MotorId) (f : Vexone → Vexone) : Vexone :=
  let x := v.motors[n]
  match x.undo with
  | some (vset, integ, duty, adv, at_) =>
    if x.updAt = v.now && x.stAt != v.now then
      (f (v.modMotor n fun x => { x with vset := vset, integ := integ, duty := duty, cnt := x.cnt.set 5 adv, updAt := at_
                                         undo := none })).motionUpdate n
    else f v
  | none => f v

/-- An egress lane's move that a MOTOR_STOP interrupted goes on (log entry 84). -/
def Vexone.resumeLane (v : Vexone) (n : MotorId) : Vexone :=
  match v.egLane n, v.motors[n].move with
  | some l, some mv =>
    if l.begun && !l.done && v.motors[n].st == .hold then
      let v := v.startMove n mv v.motors[n].fwd
      if v.motors[n].fallback then v.modMotor n fun x => { x with vset := v.creep n * velUnit, duty := v.olDuty n } else v
    else v
  | _, _ => v

/-- The motors that an entry names: mask bits 26 to 23. -/
def Entry.motors (e : Entry) : List MotorId := (List.finRange 4).filter fun n => e.tracks.getLsbD (23 + n.val)

/-! ## Hall edges (12 section 12.6) -/

/-- The predicted interval as a fraction: the last interval by v_last / v_now, or the last interval itself where the profile
has a zero velocity (log entry 21). -/
def Motor.predicted (x : Motor) : Nat × Nat :=
  if x.vLast = 0 ∨ x.vset = 0 then (x.interval, 1) else (x.interval * x.vLast, x.vset)

/-- The window of the next edge: its first and last CCLK and the predicted time, once two edges have set an interval. -/
def Motor.window (x : Motor) : Option (Nat × Nat × Nat) :=
  match x.tLast with
  | some t =>
    if 2 ≤ x.edges then
      let (a, b) := x.predicted
      some (t + 3 * a / (4 * b), t + ceilDiv (5 * a) (4 * b), t + a / b)
    else none
  | none => none

/-- One edge counted in the direction of motion at a time, with its code. -/
def Vexone.countEdge (v : Vexone) (n : MotorId) (code : BitVec 3) (t : Nat) (extra : Bool) : Vexone :=
  v.modMotor n fun x =>
    { x with pos := if x.fwd then x.pos + 1 else x.pos - 1, expect := code,
             interval := match x.tLast with | some t0 => t - t0 | none => x.interval,
             tLast := some t, edges := x.edges + 1, extra := extra, vLast := x.vset,
             cnt := vcount x.cnt (if extra then 2 else 0) }

/-- The position has reached the target in the direction of motion. -/
def Vexone.reached (v : Vexone) (n : MotorId) (mv : Move) : Bool :=
  if v.motors[n].fwd then decide ((mv.pos : Int) ≤ v.motors[n].pos) else decide (v.motors[n].pos ≤ (mv.pos : Int))

/-- A rejected edge: counted, and the estimate is corrected (12 R431, R434). -/
def Vexone.rejectEdge (v : Vexone) (n : MotorId) : Vexone :=
  v.modMotor n fun x => { x with cnt := vcount x.cnt 1, rejSince := x.rejSince + 1, corrected := some v.now }

/-- An edge while the motor moves or brakes (12 R431 to R434). -/
def Vexone.drivenEdge (v : Vexone) (n : MotorId) (code : BitVec 3) : Vexone :=
  let x := v.motors[n]
  let inWin := match x.window with | none => true | some (lo, hi, _) => decide (lo ≤ v.now ∧ v.now ≤ hi)
  let fits := if validCode x.expect then code == v.codeAfter n x.fwd x.expect else true
  if inWin && fits then
    let v := v.countEdge n code v.now false
    match v.motors[n].st, v.motors[n].move with
    | .moving, some mv => if !mv.homing && v.reached n mv then v.arrive n else v
    | .braking, _ => if 2 ≤ v.motors[n].edges && !v.fast n then v.motorTo n .hold else v
    | _, _ => v
  else if inWin && x.extra && code == x.expect then v.modMotor n fun x => { x with corrected := some v.now }
  else v.rejectEdge n

/-- An edge in brake-hold or idle: by code alone, in either direction (12 R435). -/
def Vexone.restEdge (v : Vexone) (n : MotorId) (old code : BitVec 3) : Vexone :=
  let count := fun (v : Vexone) (d : Int) => v.modMotor n fun x =>
    { x with pos := x.pos + d, interval := match x.tLast with | some t0 => v.now - t0 | none => x.interval,
             tLast := some v.now, cnt := vcount x.cnt 0 }
  if !validCode old then v
  else if code == v.codeAfter n true old then count v 1
  else if code == v.codeAfter n false old then count v (-1)
  else v.rejectEdge n

/-- A creep stall: the second missing edge inside the end zone at CREEP, or on a move that runs at CREEP throughout (12
R428, R433, R443). -/
def Vexone.creepStall (v : Vexone) (n : MotorId) (mv : Move) : Bool :=
  mv.homing || (decide (v.toGo n mv.pos (v.isCorrected n) ≤ v.endZone n) && v.motors[n].vset == v.creep n * velUnit)

/-- A creep stall ends a move to 0 or to OPEN_MAX, and a homing egress move; at any other target it is a motion fault with
a code (12 R428, R443). -/
def Vexone.stall (v : Vexone) (n : MotorId) (mv : Move) (code : Nat) : Vexone :=
  if mv.place.isNone && mv.homing then v.arrive n
  else if mv.pos = 0 then (v.modMotor n fun x => { x with pos := 0, homed := true }).arrive n
  else if mv.pos = v.openMax n then (v.modMotor n fun x => { x with pos := mv.pos }).arrive n
  else v.motionFault n code

/-! ## The motor bus (12 section 12.7) -/

/-- The levels of 12 R437 in 10 mV. -/
def Vexone.vOn (v : Vexone) : Nat := 50 * (v.mbus.thr - fld (v.force 0x08C0) 15 8)

def Vexone.vOff (v : Vexone) : Nat := 50 * (v.mbus.thr - 2 * fld (v.force 0x08C0) 15 8)

/-- Reservoir faults (13 R467). -/
def resFaults : List Nat := [0x0A01, 0x0A02, 0x0A03, 0x0A04, 0x0A05, 0x0A06]

def Vexone.resFault (v : Vexone) : Bool := resFaults.any v.anyLatched

/-- The mains counts as absent: absent, brown-out or a lost link (13 R472, R474). -/
def Vexone.mainsAbsent (v : Vexone) : Bool := v.mains.st != 0 || v.mains.lost

/-- Regeneration entry and exit levels in hundredths of 10 mV: MBUS_NOM scaled by REGEN_LVL, or the independent stack
measurement while the mains is absent (12 R437, 13 R465). -/
def Vexone.regenLevels (v : Vexone) : Nat × Nat :=
  if v.mainsAbsent then (10 * v.res.stack + 10000, 10 * v.res.stack + 5000)
  else
    let l := fld (v.force 0x08C0) 7 4
    (10 * v.mbusNom * (100 + l), 5 * v.mbusNom * (200 + l))

/-- CHOP_DRV driven to a level; once high it stays so for at least 2 us, 434 CCLK (12 R439). -/
def Vexone.chopTo (v : Vexone) (on : Bool) : Vexone :=
  if on then
    { v with mbus := { v.mbus with chop := true, chopLow := false, chopAt := if v.mbus.chop then v.mbus.chopAt else v.now } }
  else if !v.mbus.chop then v
  else if v.now < v.mbus.chopAt + 434 then
    ({ v with mbus := { v.mbus with chopLow := true } } : Vexone).leave (v.mbus.chopAt + 434) .chopLow
  else { v with mbus := { v.mbus with chop := false, chopLow := false, chopOn := v.mbus.chopOn + (v.now - v.mbus.chopAt) } }

/-- The least time of CHOP_DRV ends. -/
def Vexone.chopEnds (v : Vexone) : Vexone := if v.mbus.chopLow then v.chopTo false else v

/-! ## Judging egress (13 R478) -/

/-- A cause of egress judged for some lanes at this edge: their segments furl, 16 CCLK later where it is a LANE_EGRESS (15 Table 15-3), the lanes join from the next tick, and the
settings that would add energy to them are voided. A lane already in egress is left (12 R453). -/
def Vexone.judgeEgress (v : Vexone) (lanes : BitVec 4) (cause : Nat) : Vexone × BitVec 4 × Bool :=
  let inL : BitVec 4 := if v.eg.active then BitVec.ofNat 4 ((v.eg.plan.map fun l => 1 <<< l.lane.val).foldl (· ||| ·) 0) else 0
  let new := lanes &&& ~~~inL &&& ~~~v.eg.judged
  if new = 0 then (v, 0, false)
  else
    let ls := (List.finRange 4).filter fun l => new.getLsbD l.val
    let (v, late) := ls.foldl (fun (a : Vexone × Bool) l =>
      let m := laneSegs l.val
      let (w, l1) := a.1.voidUnfurl m
      let (w, l2) := w.voidMotor l
      (if cause = 3 then w.leave (w.now + 16) (.haltFurl m) else w.forSegs m Vexone.furl, a.2 || l1 || l2)) (v, false)
    ({ v with eg := { v.eg with judged := v.eg.judged ||| new, cause := if v.eg.judged = 0 then cause else v.eg.cause } },
      new, late)

/-- The choice of a CHOPPER_UPDATE at its last edge (12 R438). -/
def Vexone.chooseRegen (v : Vexone) (vbus : Nat) : Vexone :=
  let (vr, vx) := v.regenLevels
  let regen :=
    if vr ≤ 100 * vbus && v.res.on && !v.resFault then true
    else if 100 * vbus < vx then false
    else v.mbus.regen
  { v with mbus := { v.mbus with vbus := vbus, regen := regen } }

/-! ## Motion operations (05 Table 5-7) -/

def Op.motor (o : Op) : MotorId := Fin.ofNat 4 o.target

/-- Declared lanes as a mask. -/
def Vexone.laneMask (v : Vexone) : BitVec 4 :=
  BitVec.ofNat 4 (v.lanesDeclared.foldl (fun a l => a ||| 1 <<< l) 0)

/-- The active image does not declare the motor. -/
def Vexone.motorUndeclared (v : Vexone) (n : Nat) : Bool := !v.declMotors.getLsbD n

/-- The latched fault that keeps a motor from moving (05 Table 5-7; 16 Table 16-7). -/
def Vexone.motorProt (v : Vexone) (n : Nat) (cs : List Nat) : Option Nat :=
  firstSome [v.firstLatched cs n, if v.latched 0x0905 0 then some 0x0905 else none]

/-! ## Motion settings at the tick -/

/-- MOTOR_ENABLE in force (12 Table 12-4, R428). -/
def Vexone.tickMotorEnable (v : Vexone) (n : MotorId) (en : Bool) : Vexone :=
  let x := v.motors[n]
  if en then
    if x.st = .disabled ∨ (x.st = .faultOff ∧ v.latched 0x0901 n.val = false) then
      (v.modMotor n fun x => { x with pos := 0, homed := false, fallback := false }).motorTo n .hold
    else v
  else if x.st = .faultOff ∨ x.st = .moving then v
  else (v.modMotor n fun x => { x with homed := false, move := none }).motorTo n .disabled

/-- FLAP_MOVE from the tick (12 R428): a move to the position held ends at once; one whose motor has left idle is
cancelled, one on a lane now in egress ends with ST_EGRESS (05 R191). -/
def Vexone.tickFlapMove (v : Vexone) (p : Place) (n : MotorId) (pos vmax acc : Nat) : Vexone :=
  let x := v.motors[n]
  if (v.egLane n).isSome then v.complete p stEgress 0
  else if x.st ≠ .idle then v.complete p stCancelled 0
  else
    let homing := v.motorMode n.val = 0 && !x.homed
    let mv : Move := { place := some p, pos := pos, vmax := vmax, acc := acc, homing := homing, steps := 0,
                       openLoop := v.motorMode n.val = 1 }
    if !homing && x.pos == (pos : Int) then v.complete p stOk pos
    else v.startMove n mv (!homing && decide (x.pos < (pos : Int)))

/-- MOTOR_RELEASE in force. -/
def Vexone.tickRelease (v : Vexone) (n : MotorId) : Vexone :=
  if v.motors[n].st = .hold then v.motorTo n .idle else v

/-- CHOPPER_SET in force: the chopper starts low at enable, and is low when disabled unless it is forced (12 R439). -/
def Vexone.tickChopper (v : Vexone) (en : Bool) : Vexone :=
  let v := if !en && !v.mbus.forced then v.chopTo false else v
  { v with mbus := { v.mbus with chopEn := en } }

/-! ## The egress plan (12 section 12.8) -/

/-- The lanes of ORDER in force, first to start first. -/
def Vexone.egressOrder (v : Vexone) : List LaneId :=
  let o := fld (v.force 0x0880) 7 0
  (List.range 4).map fun k => Fin.ofNat 4 (bitsOf o (2 * k + 1) (2 * k))

/-- Lanes join the plan in ORDER, each STAGGER frames after the place before it, the first at this tick (12 R442). -/
def Vexone.joinPlan (v : Vexone) (lanes : BitVec 4) : Vexone :=
  let stagger := fld (v.force 0x0880) 15 8
  let add := v.egressOrder.filter fun l => lanes.getLsbD l.val && !(v.eg.plan.any fun x => x.lane == l)
  { v with eg := { v.eg with plan := add.foldl (fun pl l =>
      pl ++ [{ lane := l, start := v.eg.atTick + pl.length * stagger, begun := false, done := false }]) v.eg.plan } }

/-- The motor of a lane that joins brakes and then holds; its flap move ends with ST_EGRESS (12 R443, 05 R191). -/
def Vexone.joinMotors (v : Vexone) (lanes : BitVec 4) : Vexone :=
  (List.finRange 4).foldl (fun v n => if lanes.getLsbD n.val then v.brake n stEgress else v) v

end Sys2Proof.Machine
end

