-- ==== Sys2Proof/Machine/Rails.lean ====
section
/-! DEFINITION. The field bus and the auxiliary rail (spec 11): adoption, slews, starts and stops, phase balance,
protections, SYNC_IN and the rail operations of 05 Table 5-5. -/

namespace Sys2Proof.Machine

open Sys2Proof

/-! ## The generator -/

/-- Units of 0.25 mV of a target code: 80 on the field bus, 40 on the auxiliary rail (11 section 11.4). -/
def unitsOf (r : RailId) (code : Nat) : Nat := (match r with | .fb => 80 | .ax => 40) * code

/-- The effective target: on the field bus the lesser of the commanded target and the effective cap (11 R385, 07 R253). -/
def Vexone.effTarget (v : Vexone) (r : RailId) : Nat :=
  match r with
  | .fb => min v.fb.tgt v.busCap
  | .ax => v.ax.tgt

/-- The distance between two references. -/
def dist (a b : Nat) : Nat := (a - b) + (b - a)

/-- STATE of 11 Table 11-6. -/
def RailSt.code : RailSt → Nat
  | .off => 0
  | .delay => 1
  | .rampUp => 2
  | .on => 3
  | .rampDown => 4
  | .latched => 5
  | .otShut => 6

/-- The EV_RAIL payload (11 Table 11-7) of a rail as it stands. -/
def Vexone.railPayload (v : Vexone) (r : RailId) (code phase temp : Nat) : List Byte :=
  let x := v.rail r
  let prog := match x.slewAt with | some t => v.now - t | none => 0
  payload [(2, code), (1, r.num), (1, x.st.code), (2, x.ref / 4), (2, x.vout), (4, prog), (2, v.mbus.vbus), (1, phase), (1, temp)]

/-- EV_RAIL of a commanded state change. -/
def Vexone.railEvent (v : Vexone) (r : RailId) : Vexone := v.emit 0x0801 (v.railPayload r 0 0xFF 0)

/-- The reference one step nearer its adopted target, never past it (11 R387). -/
def stepTo (ref tgt s : Nat) : Nat := if ref ≤ tgt then min (ref + s) tgt else max (ref - s) tgt

/-! ## A rail's clock: SYNC_IN and glides (01 R41; 11 R397, R398) -/

/-- SYNC_IN present within 0.5-2.0 MHz. -/
def Clock.syncGood (c : Clock) : Bool := !c.syncLost && !c.syncOut && decide (500 ≤ c.syncf ∧ c.syncf ≤ 2000)

/-- The frequency in kHz that a rail's clock is to have: that of SYNC_IN where it is followed, else FSW. -/
def Vexone.clockAim (v : Vexone) (r : RailId) : Nat :=
  if (v.rail r).syncEn && v.clk.syncGood then v.clk.syncf else (v.rail r).fsw

/-- A rail's clock in kHz: it glides by 5 kHz per us, 216.96 CCLK, so that 1,500 kHz take 300 us (11 R398, log entry 19). -/
def Vexone.railClock (v : Vexone) (r : RailId) : Nat :=
  stepTo (v.rail r).glideFrom (v.clockAim r) (500 * (v.now - (v.rail r).glideAt) / 21696)

def Vexone.gliding (v : Vexone) (r : RailId) : Bool := (v.rail r).switching && v.railClock r != v.clockAim r

/-- Synchronised to SYNC_IN: it is followed and the glide to it has ended. -/
def Vexone.syncLocked (v : Vexone) (r : RailId) : Bool :=
  (v.rail r).switching && (v.rail r).syncEn && v.clk.syncGood && !v.gliding r

/-- A rail that switches glides from the frequency that its clock has now; counted. -/
def Vexone.glide (v : Vexone) (r : RailId) : Vexone :=
  let f := v.railClock r
  v.modRail r fun x =>
    if x.switching then { x with glideFrom := f, glideAt := v.now, cnt := vcount x.cnt 6 } else x

/-- The rails that follow SYNC_IN glide. -/
def Vexone.glideAll (v : Vexone) : Vexone :=
  [RailId.fb, RailId.ax].foldl (fun v r => if (v.rail r).syncEn then v.glide r else v) v

/-! ## Starts, stops and adoption -/

/-- A ramp up starts: the reference at the measured output, the effective target and slew in force adopted, EV_RAIL
(11 Table 11-3). The first step is at the next slot boundary. -/
def Vexone.railStart (v : Vexone) (r : RailId) (vout : Nat) : Vexone :=
  let eff := v.effTarget r
  let f := v.clockAim r
  let v := v.modRail r fun x =>
    let ref := 4 * vout
    let n := ceilDiv (dist (unitsOf r eff) ref) x.slew
    { x with st := .rampUp, vout := vout, ref := ref, eff := eff, aSlew := x.slew, offPend := false, stepAt := v.now + 1,
             slewAt := some v.now, slewLen := slotLen * n, glideFrom := f, glideAt := v.now }
  v.railEvent r

/-- A ramp down starts: the adopted target becomes 0, the slew in force is adopted, EV_RAIL (11 Table 11-3). -/
def Vexone.railDown (v : Vexone) (r : RailId) : Vexone :=
  let v := v.modRail r fun x =>
    { x with st := .rampDown, eff := 0, aSlew := x.slew, offPend := false, stepAt := v.now + 1, slewAt := some v.now,
             slewLen := slotLen * ceilDiv x.ref x.slew }
  v.railEvent r

/-- A rail stopped into a state: every transistor off, the reference 0, its slew ended (11 R401, R403). -/
def Rail.stopped (x : Rail) (st : RailSt) : Rail :=
  { x with st := st, ref := 0, eff := 0, slewAt := none, slewLen := 0, offPend := false }

/-- The end of a RAIL_UPDATE (11 R386): a rail that is on adopts the effective target and the slew in force. -/
def Vexone.adopt (v : Vexone) (r : RailId) : Vexone :=
  let eff := v.effTarget r
  v.modRail r fun x =>
    if x.st = .on && !(x.eff == eff && x.aSlew == x.slew) then
      let n := ceilDiv (dist (unitsOf r eff) x.ref) x.slew
      { x with eff := eff, aSlew := x.slew, slewAt := if n = 0 then none else some v.clk.t0,
               slewLen := if n = 0 then 0 else slotLen * (v.clk.edge / slotLen + n) }
    else x

/-- SLEW_STEP (11 R387, R390): at a slot boundary a waiting ramp down begins, or the reference of a switching rail takes
one step; the end of a ramp changes the state. One boundary moves a reference once. -/
def Vexone.slewStep (v : Vexone) (r : RailId) : Vexone :=
  let x := v.rail r
  if !x.switching || decide (v.now < x.stepAt) then v
  else if x.offPend && decide (x.delayTo ≤ v.now) then v.railDown r
  else
    let tgt := unitsOf r x.eff
    let ref := stepTo x.ref tgt x.aSlew
    let landed := ref == tgt
    let v := v.modRail r fun x =>
      { x with ref := ref, stepAt := v.now + 1,
               cnt := if landed && x.slewAt.isSome then vcount x.cnt 7 else x.cnt,
               slewAt := if landed then none else x.slewAt, slewLen := if landed then 0 else x.slewLen }
    if landed then
      match x.st with
      | .rampUp => (v.modRail r fun x => { x with st := .on }).railEvent r
      | .rampDown => (v.modRail r fun x => x.stopped .off).railEvent r
      | _ => v
    else v

/-! ## Phase balance (11 R384) -/

/-- Enabled phases of a rail. -/
def Vexone.phases (v : Vexone) (r : RailId) : List (Fin 4) :=
  (List.finRange 4).filter fun p => bitsOf (fld (v.railReg r 0) 3 0) p.val p.val = 1

/-- Where the cycle of a phase starts, as a numerator and a denominator of the period (11 R383): enabled phase k of n at k/n on
the field bus, 1/8 and 5/8 on the auxiliary rail. -/
def Vexone.phaseStart (v : Vexone) (r : RailId) (p : Fin 4) : Option (Nat × Nat) :=
  let ps := v.phases r
  if !ps.contains p then none
  else match r with
    | .fb => some ((ps.takeWhile (· != p)).length, ps.length)
    | .ax => some (1 + 4 * p.val, 8)

/-- The on-time in ns of a phase whose loop wants `ns` (11 R381, R384): its duty trim added, at least 60 ns and at most 95 percent
of the period. -/
def Vexone.onTime (v : Vexone) (r : RailId) (p : Fin 4) (ns : Nat) : Nat :=
  min (950000 / v.railClock r) (max 60 ((ns : Int) + 2 * (v.rail r).trim[p]).toNat)

/-- Forced continuous conduction: the low side carries negative current, down to the negative limit. It is FCCM on the auxiliary
rail, which else emulates a diode, and always so on the field bus (11 R391, R392). -/
def Vexone.forcedConduction (v : Vexone) (r : RailId) : Bool := r == .fb || fld (v.railReg r 4) 0 0 == 1

/-- One balance update of a rail with the mean current of each phase in mA. -/
def Vexone.balUpdate (v : Vexone) (r : RailId) (i : Fin 4 → Nat) : Vexone :=
  let ps := v.phases r
  let sum := (ps.map i).sum
  let ilim := fld (v.railReg r 0) 23 16
  let sense := fld (v.railReg r 0x0C) 31 24
  if sum * sense < 200 * ilim * ps.length then v
  else
    ps.foldl (fun v p =>
      let x := v.rail r
      let t := x.trim[p]
      let t := if 100 * (i p * ps.length) > 103 * sum then max (t - 1) (-31) else t
      let t := if 100 * (i p * ps.length) < 97 * sum then min (t + 1) 31 else t
      let ends := if t = -31 || t = 31 then x.ends[p] + 1 else 0
      let v := v.modRail r fun x =>
        { x with trim := x.trim.set p t, ends := x.ends.set p (if ends = 64 then 0 else ends) }
      if ends = 64 then v.latchEv 0x0806 (oneHot 16 r.num) 0x0801 (v.railPayload r 0x0806 p.val 0) else v) v

/-! ## Rail operations (05 Table 5-5) -/

def Op.rail (o : Op) : RailId := railOfNum o.target

/-- The active image does not declare the rail. -/
def Vexone.railUndeclared (v : Vexone) (n : Nat) : Bool := !v.declRails.getLsbD n

/-- The fault that refuses a start: 0x0B01 for the field bus in reservoir hold (13 R480), 0x0807 until VBUS has risen through
7.0 V (16 R551), else the lowest latched stage fault (11 R394). -/
def Vexone.railProt (v : Vexone) (r : RailId) : Option Nat :=
  if r = .fb && v.res.hold then some 0x0B01
  else if !v.mbus.risen then some 0x0807
  else v.firstLatched [0x0801, 0x0802, 0x0804, 0x0805, 0x0807] r.num

/-! ## Protections (11 Table 11-4) -/

/-- A rail stops under a protection: latched off or shut down, the fault latched with EV_RAIL, a pending start voided
(16 R564). -/
def Vexone.railTrip (v : Vexone) (r : RailId) (st : RailSt) (code phase temp : Nat) : Vexone :=
  let (v, _) := v.voidDue fun x => match x with | .railOn q _ => q == r | .railRestart q => q == r | _ => false
  let pl := (v.modRail r fun x => { x with st := st }).railPayload r code phase temp
  let v := v.modRail r fun x => { x.stopped st with stopAt := some v.now }
  v.latchEv code (oneHot 16 r.num) 0x0801 pl

/-- A phase that is enabled on a rail. -/
def Vexone.phaseOn (v : Vexone) (r : RailId) (p : PhaseId) : Bool := (v.phases r).contains p

/-- The over-current code of a rail. -/
def ocCode : RailId → Nat
  | .fb => 0x0801
  | .ax => 0x0802

/-- Whether a current protection may act on a rail: it switches, or it was stopped in this same CCLK (11 R411). -/
def Vexone.railTripable (v : Vexone) (r : RailId) : Bool :=
  (v.rail r).switching || ((v.rail r).st == .latched && (v.rail r).stopAt == some v.now)

/-- The truncation margin of a rail in percent. -/
def Vexone.trunc (v : Vexone) (r : RailId) : Nat := fld (v.railReg r 4) 23 20

end Sys2Proof.Machine
end

