-- ==== Sys2Proof/Machine/Reservoir.lean ====
section
/-! DEFINITION. The egress reservoir, the mains and the barrier (spec 13; 16 R550 to R554): charger, balancers, reservoir
protections, the sense-line diagnostic, the primary die, and the egress sequencer's causes and end. -/

namespace Sys2Proof.Machine

open Sys2Proof

/-! ## Set-up in force (13 R462) -/

/-- RES_MIN and HOLD_END in mV; RSENSE in 10 mOhm. -/
def Vexone.resMin (v : Vexone) : Nat := 100 * fld (v.force 0x08D0) 23 16

def Vexone.holdEnd (v : Vexone) : Nat := 100 * fld (v.force 0x08D0) 15 8

def Vexone.rSense (v : Vexone) : Nat := fld (v.force 0x08D0) 31 24

/-! ## Readings -/

/-- Cell k + 1: the difference of the sense lines around it; a line below the one under it reads 0 (13 R459). -/
def cellReadings (l : Vector Nat 7) : Vector Nat 6 := Vector.ofFn fun k => l[k.val + 1] - l[k.val]

def Reservoir.sum (r : Reservoir) : Nat := r.cells.toList.foldl (· + ·) 0

def Reservoir.highest (r : Reservoir) : Nat := r.cells.toList.foldl max 0

def Reservoir.lowest (r : Reservoir) : Nat := r.cells.toList.foldl min (r.cells[0])

/-- A cell's reading by index. -/
def Reservoir.cell (r : Reservoir) (k : Nat) : Nat := r.cells.toList.getD k 0

/-- The lines suspected or found open. -/
def Reservoir.badLines (r : Reservoir) : BitVec 7 := r.suspect ||| r.openL

/-- A cell next to a suspected or open line (13 R466): cell index k lies between lines k and k + 1. -/
def Reservoir.beside (r : Reservoir) (k : Nat) : Bool := r.badLines.getLsbD k || r.badLines.getLsbD (k + 1)

/-- A cell that is judged in a pair: it touches one of lines 1 to 5 that is suspected or open (13 R467). -/
def Reservoir.paired (r : Reservoir) (k : Nat) : Bool :=
  (r.badLines.getLsbD k && decide (0 < k)) || (r.badLines.getLsbD (k + 1) && decide (k < 5))

/-- A mask from a test over bit numbers. -/
def maskOf (n : Nat) (f : Nat → Bool) : BitVec n := BitVec.ofNat n ((List.range n).foldl (fun a i => a + bit (f i) <<< i) 0)

/-- The current that the charger may deliver while it absorbs (12 R438, 13 R465): REGEN_I in mA. -/
def Vexone.regenI (v : Vexone) : Nat := 10 * fld (v.force 0x08C0) 23 16

/-- The charger absorbs regeneration: chosen, on, no fault, and in CC or with the mains absent (13 R464, R465). -/
def Vexone.absorbing (v : Vexone) : Bool :=
  v.mbus.regen && v.res.on && !v.resFault && (v.mainsAbsent || v.res.phase == .cc)

/-- The current that the charger regulates to, in mA: ICHG in CC and CV, capped at 50 with an open line, raised to REGEN_I
while it absorbs; none with the mains absent (13 R464, R465, R471). -/
def Vexone.chgTarget (v : Vexone) : Nat :=
  let ichg := if v.res.openL = 0 then v.res.ichg else min v.res.ichg 50
  if v.mainsAbsent then (if v.absorbing then v.regenI else 0)
  else match v.res.phase with
    | .cc => if v.absorbing then max ichg v.regenI else ichg
    | .cv => ichg
    | _ => 0

/-- Charger state of the reservoir record (13 R483). -/
def Vexone.chgCode (v : Vexone) : Nat :=
  if v.absorbing then 4
  else match v.res.phase with | .off => 0 | .cc => 1 | .cv => 2 | .done => 3

/-- The current that the pass element carries, in mA: none while a CHG_UPDATE measures the stack, and the frozen one in a
SENSE_DIAG (13 R463, R470). -/
def Vexone.chgDrive (v : Vexone) : Nat :=
  if v.now < v.res.offTo then 0 else if v.res.on && decide (v.now < v.res.diagTo) then v.res.frozen else v.chgTarget

/-- The cells that bleed: none in a SENSE_DIAG (13 R470). -/
def Vexone.bleeding (v : Vexone) : BitVec 6 := if v.now < v.res.diagTo then 0 else v.res.bleed

/-- The reservoir record (13 R483). -/
def Vexone.resRecord (v : Vexone) : List Byte :=
  let r := v.res
  padTo 24 (r.cells.toList.flatMap (le 2 ·) ++ le 2 (r.sum / 10) ++ le 2 (r.stack / 10) ++ le 2 (satTo 0xFFFF r.chgMa) ++
    le 1 v.chgCode ++ le 1 (pack [(bit r.ready, 0), (bit r.hold, 1), (bit r.dropout, 2)]) ++
    le 1 v.bleeding.toNat ++ le 1 r.suspect.toNat ++ le 1 r.openL.toNat)

/-- The EV_RESERVOIR payload: code, mask, and bytes 0 to 12 of the record (13 R484). -/
def Vexone.resPayload (v : Vexone) (code mask : Nat) : List Byte :=
  padTo 16 (le 2 code ++ le 1 mask ++ v.resRecord.take 13)

/-- A reservoir fault latched with EV_RESERVOIR (13 R467): its instances, and the cells or lines that the event names. -/
def Vexone.resFaultEv (v : Vexone) (code : Nat) (mask : BitVec 16) (named : Nat := mask.toNat) : Vexone :=
  v.latchEv code mask 0x0A01 (v.resPayload code named)

/-! ## The charger -/

/-- The charger stops: the pass element off. -/
def Vexone.chgStop (v : Vexone) : Vexone :=
  { v with res := { v.res with on := false, phase := .off, chgMa := 0, cvLow := 0, dropout := false } }

/-- A protection stops the charger: a pending CHG_ON is voided (16 R564), the protection counted (05 Table 5-15). -/
def Vexone.chgTrip (v : Vexone) : Vexone :=
  let (v, _) := v.voidDue fun x => match x with | .chgOn => true | _ => false
  let v := v.chgStop
  { v with res := { v.res with cnt := vcount v.res.cnt 5 } }

/-- The target cell voltage in mV. -/
def Reservoir.target (r : Reservoir) : Nat := 10 * r.vcell

/-- CHG_ON in force: done where the highest cell lies within 50 mV below the target, otherwise CC (16 R552). -/
def Vexone.tickChgOn (v : Vexone) : Vexone :=
  if v.res.on then v
  else if v.res.target ≤ v.res.highest + 50 then { v with res := { v.res with on := true, phase := .done, cvLow := 0 } }
  else { v with res := { v.res with on := true, phase := .cc, cvLow := 0, cnt := vcount v.res.cnt 1 } }

/-- The phase judgement of a CHG_UPDATE (13 R464, R471). -/
def Vexone.chgPhase (v : Vexone) : Vexone :=
  let r := v.res
  let set := fun (p : ChgPhase) (n : Option Nat) =>
    { v with res := { r with phase := p, cvLow := 0, cnt := match n with | some k => vcount r.cnt k | none => r.cnt } }
  match r.phase with
  | .off => v
  | .cc => if r.target ≤ r.highest then set .cv none else v
  | .cv =>
    if r.openL != 0 && decide (6 * r.target ≤ r.stack + 300) then set .done (some 2)
    else if 10 * r.chgMa < r.ichg then
      if 64 ≤ r.cvLow + 1 then set .done (some 2) else { v with res := { r with cvLow := r.cvLow + 1 } }
    else { v with res := { r with cvLow := 0 } }
  | .done => if r.highest + 50 ≤ r.target then set .cc (some 1) else v

/-! ## Sense lines (13 R469) -/

/-- The lines that a CHG_UPDATE suspects. -/
def Reservoir.suspects (r : Reservoir) : BitVec 7 :=
  let s := r.sum
  let off := decide (150 < dist s r.stack)
  maskOf 7 fun k =>
    if k = 0 ∨ k = 6 then off
    else
      let low := s - 6 * r.cell (k - 1)
      let high := 6 * r.cell k - s
      decide (600 < low ∧ 600 < high ∧ dist low high ≤ 120)

/-- The judgement of the lines; a disagreement at two consecutive updates is fault 0x0A04. -/
def Vexone.judgeLines (v : Vexone) : Vexone :=
  let bad := decide (150 < dist v.res.sum v.res.stack)
  let was := v.res.sumBad
  let v := { v with res := { v.res with suspect := v.res.suspects, sumBad := bad } }
  if bad && was then v.resFaultEv 0x0A04 0x0041 else v

/-! ## Balancers (13 R466) -/

/-- Whether a cell is to bleed. -/
def Reservoir.wantsBleed (r : Reservoir) (k : Nat) : Bool :=
  let d := r.cell k - r.lowest
  let high := decide (2850 ≤ r.cell k)
  let bal := r.balEn && (decide (r.balTh ≤ d) || (r.bleed.getLsbD k && decide (r.balTh < 2 * d)))
  if r.beside k then
    (decide (0 < k) && r.ovPair.getLsbD k) || (decide (k < 5) && r.ovPair.getLsbD (k + 1))
  else high || bal

/-- At most three cells bleed, the highest first; equal cells in number order. -/
def Reservoir.bleeders (r : Reservoir) : BitVec 6 :=
  let want := (List.range 6).filter r.wantsBleed
  let best := (sortKey (fun k => 1000000 - r.cell k) want).take 3
  maskOf 6 fun k => best.contains k

/-- The balancers chosen. -/
def Vexone.balance (v : Vexone) : Vexone :=
  let b := v.res.bleeders
  { v with res := { v.res with bleed := b, cnt := vcount v.res.cnt 7 (countOnes b) } }

/-! ## Reservoir hold and the stack's levels -/

/-- The auxiliary rail off and every fan's PWM low when the stack falls below HOLD_END in reservoir hold (13 R480). -/
def Vexone.holdPassed (v : Vexone) : Vexone :=
  if v.res.hold && !v.res.low && decide (v.res.stack < v.holdEnd) then
    let v := { v with res := { v.res with low := true } }
    let v := v.modRail .ax fun x => x.stopped .off
    let v := (List.finRange 4).foldl (fun v c => if v.declFans.getLsbD c.val then v.modFan c fun x => { x with pin := .low } else v) v
    v.emit 0x0A01 (v.resPayload 0 0)
  else v

/-- READY, and the self-clearing of 0x0A06 at RES_MIN + 0.2 V (13 R467). -/
def Vexone.judgeStack (v : Vexone) : Vexone :=
  let v := { v with res := { v.res with ready := decide (v.resMin ≤ v.res.stack) } }
  if v.resMin + 200 ≤ v.res.stack then v.clearFault 0x0A06 1 else v

/-- The stack is low with the mains present and the charger on (13 Table 13-2). -/
def Vexone.stackLow (v : Vexone) : Bool := v.res.on && !v.mainsAbsent && decide (v.res.stack < v.resMin)

/-- At a tick: the frames for which the stack has been low. -/
def Vexone.tickStack (v : Vexone) : Vexone :=
  { v with res := { v.res with lowRun := if v.stackLow then v.res.lowRun + 1 else 0 } }

/-! ## Activities -/

/-- The sample of a CHG_UPDATE (13 R463 to R471): the independent measurement, the lines, the charger, the protections, the
balancers. -/
def Vexone.chgUpdate (v : Vexone) (d : ScanData) : Vexone :=
  let v : Vexone := { v with
    res := { v.res with cells := cellReadings d.lines, stack := d.isn, cnt := vcount v.res.cnt 0 }
    mbus := { v.mbus with vbus := d.vbus } }
  let v := v.judgeLines
  let v := if v.res.on then v.chgPhase else v
  let v := { v with res := { v.res with dropout := v.res.on && decide (10 * d.vbus < v.res.stack + 2000) &&
                                         decide (v.res.chgMa < v.chgTarget) } }
  let so := decide (17280 ≤ d.isn)
  let stackNew := so && v.res.stackOv && !v.res.ovRead.getLsbD 6
  let v := { v with res := { v.res with stackOv := so } }
  let v : Vexone := if stackNew then
      let v := { v with res := { v.res with ovRead := v.res.ovRead ||| 0x40 } }
      v.chgTrip.resFaultEv 0x0A01 0x0040
    else v
  let oc := v.res.on && decide (5 * v.chgTarget + 80 ≤ 4 * v.res.chgMa)
  let ocNew := oc && v.res.oc
  let v := { v with res := { v.res with oc := oc } }
  let v := if ocNew then v.chgTrip.resFaultEv 0x0A02 1 0 else v
  (v.balance.judgeStack).holdPassed

/-- The verdict of a SENSE_DIAG in the first window after it (13 R470, Table 13-4): the lines open, fault 0x0A03, and the end of
a DIAG_START of test 2. -/
def Vexone.senseVerdict (v : Vexone) : Vexone :=
  match v.res.verdict with
  | some openL =>
    if v.now < v.res.diagTo then v
    else
      let v := { v with res := { v.res with openL := openL, verdict := none,
                                            cnt := vcount (vcount v.res.cnt 3) 4 (countOnes openL) } }
      let v := if openL = 0 then v else v.resFaultEv 0x0A03 (openL.setWidth 16)
      v.endDiag 2 0 v.clk.edge (if openL = 0 then none else some 0x0A03)
  | none => v

/-- The cell over-voltage protection at a scan (13 Table 13-2): single cells, and pairs around a suspected or open line. -/
def Vexone.cellOverVoltage (v : Vexone) : Vexone :=
  let r := v.res
  let cellNow : BitVec 6 := maskOf 6 fun k => !r.paired k && decide (2880 ≤ r.cell k)
  let pairNow : BitVec 7 := maskOf 7 fun k =>
    decide (0 < k ∧ k < 6) && r.badLines.getLsbD k && decide (5760 ≤ r.cell (k - 1) + r.cell k)
  let cq := cellNow &&& r.cellOv &&& ~~~(r.ovRead.setWidth 6)
  let pq := pairNow &&& r.pairOv &&& ~~~r.ovPair
  let v := { v with res := { r with cellOv := cellNow, pairOv := pairNow,
                                    ovRead := r.ovRead ||| cq.setWidth 7, ovPair := r.ovPair ||| pq } }
  if cq = 0 && pq = 0 then v
  else
    let m : BitVec 6 := cq ||| maskOf 6 fun k => pq.getLsbD (k + 1) || (pq.getLsbD k && decide (0 < k))
    v.chgTrip.balance.resFaultEv 0x0A01 (m.setWidth 16)

/-- The cell short protection at a scan (13 Table 13-2). -/
def Vexone.cellShort (v : Vexone) : Vexone :=
  let r := v.res
  let agrees := decide (dist r.sum r.stack ≤ 150)
  let now : BitVec 6 := maskOf 6 fun k =>
    agrees && decide (r.cell k < 500) && (List.range 6).all fun j => j == k || decide (1000 ≤ r.cell j)
  let q := now &&& r.shortNow &&& ~~~r.cellSh
  let v := { v with res := { r with shortNow := now, cellSh := r.cellSh ||| q } }
  if q = 0 then v else v.chgTrip.resFaultEv 0x0A05 (q.setWidth 16)

/-! ## Reservoir operations (05 Table 5-6) -/

/-- The charger is not declared. -/
def Vexone.chgUndeclared (v : Vexone) : Bool := !v.declRails.getLsbD 2

/-! ## The mains as the secondary die knows it (13 R473 to R477, R488) -/

/-- PRI_ON in force (13 R476). -/
def Vexone.priOn (v : Vexone) : Bool := fld (v.force 0x08E0) 0 0 = 1

/-- The mains record (13 R483). -/
def Vexone.mainsRecord (v : Vexone) : List Byte :=
  let m := v.mains
  padTo 8 (le 1 m.st ++ le 1 (pack [(bit m.dc, 0), (bit m.priEn, 1), (bit v.priOn, 2), (bit m.lost, 3), (bit m.ov, 4)]) ++
    le 2 m.peak ++ le 2 (if m.dc then 0 else m.half))

/-- The EV_MAINS payload (13 R484). -/
def Vexone.mainsPayload (v : Vexone) (code : Nat) : List Byte :=
  padTo 16 (le 2 code ++ le 1 v.mains.st ++ v.mainsRecord)

/-- A mains fault with EV_MAINS, which is recorded at each loss (13 R477). -/
def Vexone.mainsFault (v : Vexone) (code : Nat) : Vexone :=
  let v := v.latchRaw code 1
  v.emit 0x0B01 (v.mainsPayload code)

/-- The mains becomes absent: PRI_ON is cleared (13 R476), in force at the next tick (13 Table 13-7), and the egress sequencer's
cause is judged for the armed lanes (13 R478). DEDUCED: the register reads 0 at once (log entry 124). -/
def Vexone.becomeAbsent (v : Vexone) : Vexone :=
  let v := (v.setWritten 0x08E0 0).markFresh 0x08E0
  if v.eg.armed = 0 then v
  else
    let (v, new, _) := v.judgeEgress v.eg.armed 1
    if new = 0 then v else { v with mains := { v.mains with cnt := vcount v.mains.cnt 6 } }

/-- The mains state changes with its event and its fault. -/
def Vexone.mainsTo (v : Vexone) (st : Nat) : Vexone :=
  let was := v.mains.st
  if st = was then v
  else
    let v := { v with mains := { v.mains with st := st } }
    let v := match st with
      | 0 => v.emit 0x0B01 (v.mainsPayload 0)
      | 1 => ({ v with mains := { v.mains with cnt := vcount v.mains.cnt 1 } } : Vexone).mainsFault 0x0B02
      | _ => ({ v with mains := { v.mains with cnt := vcount v.mains.cnt 0 } } : Vexone).mainsFault 0x0B01
    if was = 0 then v.becomeAbsent else v

/-! ## EGRESS_N and the sequencer's end (13 R478 to R480) -/

/-- The lanes of the plan as a mask. -/
def Egress.lanes (g : Egress) : BitVec 4 := BitVec.ofNat 4 ((g.plan.map fun l => 1 <<< l.lane.val).foldl (· ||| ·) 0)

/-- Reservoir hold is entered (13 R480): the field bus goes off as under RAIL_KILL, with no fault. -/
def Vexone.enterHold (v : Vexone) : Vexone :=
  let (v, _) := v.voidDue fun x => match x with | .railOn r _ => r == .fb | .railRestart r => r == .fb | _ => false
  let v := v.modRail .fb fun x => x.stopped .off
  { v with res := { v.res with hold := true } }

/-- Reservoir hold ends at a tick with the mains present and VBUS 1.0 V above the stack; each fan resumes (13 R480, 14
R506). -/
def Vexone.tickHold (v : Vexone) : Vexone :=
  if v.res.hold && !v.mainsAbsent && decide (v.res.stack + 1000 ≤ 10 * v.mbus.vbus) then
    { v with res := { v.res with hold := false, low := false } }
  else v

/-! ## The primary die (13 R472 to R475) -/

/-- PRI_EN after a change: with the secondary dark it follows the mains; otherwise it needs PRI_ON as well (13 R475). -/
def Primary.judge (p : Primary) : Primary :=
  { p with priEn := p.st == .present && (p.dark || p.priOn) }

end Sys2Proof.Machine
end

