-- ==== Sys2Proof/Machine/Fans.lean ====
section
/-! DEFINITION. Temperature and fans (spec 14; the over-temperature guard of 11 Table 11-4; 16 R553): thermistors and die
sensors, fan modes, tach, forced full speed, the fan watchdog, and the operations of 05 Table 5-8a. -/

namespace Sys2Proof.Machine

open Sys2Proof

/-! ## Temperatures -/

/-- The die temperature: the hottest of the four sensors (14 R495). -/
def Therm.dieT (t : Therm) : Int := t.die.toList.foldl max (t.die[0])

/-- What a thermistor input reads for the fans: +125 degrees C while faulted (14 R494). -/
def ThermIn.reads (t : ThermIn) : Int := if t.faulted then 1000 else t.t8

/-- A channel's control temperature, 1/8 degree C (14 R496). -/
def Vexone.control (v : Vexone) (c : FanId) : Int :=
  (List.finRange 8).foldl
    (fun a n => if v.fans[c].mask.getLsbD n.val then max a v.th.ins[n].reads else a) v.th.dieT

/-- Open above 2 MOhm or shorted below 20 Ohm (14 R494), on the conversion code. -/
def thermBad (n : Nat) : Bool := decide (2000000 * (4096 - n) < 10000 * n) || decide (10000 * n < 20 * (4096 - n))

/-- Terms of artanh z / z, from z squared as 2^48ths: what is left of the series, its next divisor, and the sum so far. -/
def artanhSum (z2 : Nat) : Nat → Nat → Nat → Nat → Nat
  | 0, _, _, sum => sum
  | k + 1, p, d, sum => artanhSum z2 k (p * z2 / 2 ^ 48) (d + 2) (sum + p / d)

/-- ln (a / b) in 2^48ths for a at least b, both positive: the powers of two, then 2 artanh of what is left. -/
def lnUp (a b : Nat) : Nat :=
  let k := Nat.log2 (a / b)
  let c := b * 2 ^ k
  let z := (a - c) * 2 ^ 48 / (a + c)
  195103586505167 * k + 2 * artanhSum (z * z / 2 ^ 48) 16 z 1 0

/-- The temperature of a conversion code in 1/8 degree C (14 R493): the formula with the logarithm in 2^48ths; what is no whole
count is the count below or above (log entry 126). -/
def thermTemp (code : BitVec 12) (beta : Nat) : Int :=
  let n := code.toNat
  let m := 4096 - n
  let l : Int := if n = 0 then 0 else if m ≤ n then lnUp n m else -(lnUp m n : Int)
  let den : Int := 100 * beta * 2 ^ 48 + 29815 * l
  if n = 0 ∨ den ≤ 0 then Config.thermT code beta
  else
    let num : Int := 8 * 29815 * beta * 2 ^ 48 * 10 - 21852 * den
    num / (10 * den) + (if num % (10 * den) ≠ 0 ∧ Config.thermUp code beta then 1 else 0)

/-! ## The PWM pin (14 R497) -/

/-- The start of the PWM period of a channel at a CCLK time; before the first one, that time itself. -/
def fanPeriod (c : FanId) (t : Nat) : Nat := t - (t + Config.fanPhase c.val) % 8680

/-- What drives a channel's pin at a time: a new duty from the start of the next period, anything else at once. -/
def Fan.drive (f : Fan) (c : FanId) (t : Nat) : FanPin :=
  match f.pin with
  | .duty d => if f.pinAt < fanPeriod c t then .duty d else f.pinWas
  | x => x

/-- The level of FANn_PWM at a time; none where it is high-impedance: at a duty d it is high for floor(86.8 d) CCLK of each period. -/
def Fan.level (f : Fan) (c : FanId) (t : Nat) : Option Bool :=
  match f.drive c t with
  | .hiZ => none
  | .low => some false
  | .duty d => some (decide (t - fanPeriod c t < 868 * d / 10))

/-! ## Fan record, events, forcing -/

/-- A masked channel record's STATE bytes (14 Table 14-2). -/
def Vexone.fanRecord (v : Vexone) (c : FanId) : List Byte :=
  let f := v.fans[c]
  let rows := (List.finRange 8).foldl (fun a r => a + bit f.rows[r].isOn <<< r.val) 0
  let slow := match f.slowAt with | some t => satTo 0xFFFF (v.clk.ticks - t) | none => 0
  padTo 16 (le 1 (if v.declFans.getLsbD c.val then f.mode else 0xFF) ++
    le 1 (f.forced.toNat + pack [(bit v.res.low, 4), (bit f.slowFault, 5)]) ++ le 1 f.applied ++ le 1 rows ++
    le 2 (satTo 0xFFFF f.rpm) ++ le 2 (twos 16 (v.control c)) ++ le 2 f.limit ++ le 2 slow ++
    le 2 (if v.fwd.armed then v.fwd.count else 0xFFFF) ++ le 1 f.hyst)

/-- EV_FAN payload of a channel, of an input, and of all channels (14 R508). -/
def Vexone.fanPayload (v : Vexone) (code : Nat) (c : FanId) : List Byte :=
  padTo 16 (le 2 code ++ le 1 c.val ++ (v.fanRecord c).take 13)

def Vexone.inputPayload (v : Vexone) (code : Nat) (n : Fin 8) : List Byte :=
  padTo 16 (le 2 code ++ le 1 n.val ++ le 2 (twos 16 v.th.ins[n].t8))

def allFansPayload (code : Nat) : List Byte := padTo 16 (le 2 code ++ le 1 0xFF)

/-- A pin driven to a duty, or low while reservoir hold has passed HOLD_END (14 R506); from below 20 to 20 percent or more
the tach count restarts (14 R503). -/
def Vexone.setPin (v : Vexone) (c : FanId) (pin : FanPin) (duty : Nat) : Vexone :=
  let (pin, duty) : FanPin × Nat := if v.res.low then (.low, 0) else (pin, duty)
  v.modFan c fun f =>
    { f with pin := pin, pinWas := f.drive c v.now, pinAt := v.now, applied := duty, slowAt := if f.applied < 20 ∧ 20 ≤ duty then none else f.slowAt }

/-- A declared channel is forced to full speed by a cause (14 R504); a pending FAN_RESTORE is voided (16 R573). -/
def Vexone.forceFan (v : Vexone) (c : FanId) (cause : Nat) : Vexone :=
  if v.declFans.getLsbD c.val then
    let v := v.modFan c fun f =>
      { f with forced := f.forced ||| oneHot 4 cause, cnt := if f.forced = 0 then vcount f.cnt 3 else f.cnt }
    v.setPin c (.duty 100) 100
  else v

def Vexone.forceFans (v : Vexone) (cause : Nat) (but : Option FanId) : Vexone :=
  let (v, _) := v.voidDue fun x => match x with | .fanRestore => true | _ => false
  (List.finRange 4).foldl (fun v c => if some c = but then v else v.forceFan c cause) v

/-! ## FAN_UPDATE (14 R499 to R503) -/

/-- A row judged against the control temperature T (1/8 degree C): an armed one, or one without history, is on inside its
band (14 R500, R501). -/
def FanRow.judge (r : FanRow) (t : Int) (hyst : Nat) : FanRow :=
  let on := decide (8 * r.temp ≤ t)
  let off := decide (t ≤ 8 * (r.temp - hyst))
  { r with arm := false, isOn := if on then true else if off then false else r.arm || r.isOn }

/-- The table's duty: the highest of the rows that are on (14 R500). -/
def tableDuty (rows : Vector FanRow 8) : Nat := rows.toList.foldl (fun a r => if r.isOn then max a r.duty else a) 0

/-- Speed from the last two counted edges (14 R502). -/
def Fan.speed (f : Fan) (now : Nat) : Nat :=
  match f.edge1, f.edge2 with
  | some a, some b => if now - a ≤ 216960000 ∧ b < a then 30 * 216960000 / (a - b) else 0
  | _, _ => 0

/-- The duty of a channel by its mode, where it is not forced. -/
def Vexone.fanDuty (v : Vexone) (c : FanId) : Vexone :=
  let f := v.fans[c]
  if f.forced != 0 then v.setPin c (.duty 100) 100
  else match f.mode with
    | 0 => v.setPin c .hiZ 0
    | 1 =>
      let rows := f.rows.map fun r => r.judge (v.control c) f.hyst
      (v.modFan c fun f => { f with rows := rows }).setPin c (.duty (tableDuty rows)) (tableDuty rows)
    | _ => v.setPin c (.duty f.duty) f.duty

/-- The tach judged; a channel slow for more than TIME x 64 frames is fault 0x0C02 and forces the others (14 R503). -/
def Vexone.judgeTach (v : Vexone) (c : FanId) : Vexone :=
  let f := v.fans[c]
  if f.limit = 0 ∨ f.applied < 20 then v
  else if f.rpm < f.limit then
    let start := f.slowAt.getD v.clk.ticks
    let v := v.modFan c fun f => { f with slowAt := some start, cnt := vcount f.cnt 1 }
    if !f.slowFault && decide (f.time * 64 < v.clk.ticks - start) then
      let v := v.modFan c fun f => { f with slowFault := true, cnt := vcount f.cnt 2 }
      (v.latchEv 0x0C02 (oneHot 16 c.val) 0x0C01 (v.fanPayload 0x0C02 c)).forceFans 2 (some c)
    else v
  else v.modFan c fun f => { f with slowAt := none }

/-- The end of a FAN_UPDATE on a channel: speed, duty, tach, and a tach check that waits for it (05 Table 5-9). -/
def Vexone.fanUpdate (v : Vexone) (c : FanId) : Vexone :=
  if v.declFans.getLsbD c.val then
    let v := v.modFan c fun f => { f with rpm := f.speed v.now, cnt := vcount f.cnt 5 }
    let v := (v.fanDuty c).judgeTach c
    v.endDiag 3 c.val v.clk.edge (if v.fans[c].slowAt.isSome then some 0x0C02 else none)
  else v

/-- The fans that an entry names: mask bits 22 to 19. -/
def Entry.fans (e : Entry) : List FanId := (List.finRange 4).filter fun c => e.tracks.getLsbD (19 + c.val)

/-! ## THERM_SCAN (14 R493 to R495; 11 Table 11-4; 16 R553) -/

/-- One thermistor input converted and judged. -/
def ThermIn.scan (t : ThermIn) (code : BitVec 12) : ThermIn :=
  let bad := thermBad code.toNat
  let badRun := if bad then min 2 (t.badRun + 1) else 0
  let goodRun := if bad then 0 else min 2 (t.goodRun + 1)
  { t with t8 := clampI (-320) 1000 (thermTemp code t.beta), badRun := badRun, goodRun := goodRun
           faulted := if badRun = 2 then true else if goodRun = 2 then false else t.faulted }

/-- A declared input converted: a fault 0x0C01 with EV_FAN at the second bad scan; channels that mask an input that is no
longer faulted arm their rows (14 R494, R501). -/
def Vexone.scanInput (v : Vexone) (n : Fin 8) (code : BitVec 12) : Vexone :=
  let old := v.th.ins[n]
  let new := old.scan code
  let v := { v with th := { v.th with ins := v.th.ins.set n new } }
  let v := if new.faulted && !old.faulted then v.latchEv 0x0C01 (oneHot 16 n.val) 0x0C01 (v.inputPayload 0x0C01 n) else v
  if old.faulted && !new.faulted then
    { v with fans := v.fans.map fun f =>
        if f.mask.getLsbD n.val then { f with rows := f.rows.map fun r => { r with arm := true } } else f }
  else v

/-- The temperatures, 1/8 degree C, that count towards a rail's guard: its THERMS inputs and the die; a faulted input counts
as at WARN (11 Table 11-4, 14 R494). -/
def Vexone.guardTemps (v : Vexone) (r : RailId) : List Int :=
  let mask : BitVec 8 := BitVec.ofNat 8 (fld (v.railReg r 4) 15 8) &&& v.declTherms
  v.th.dieT :: ((List.finRange 8).filter fun n => mask.getLsbD n.val).map fun n =>
    if v.th.ins[n].faulted then 8 * ((v.rail r).warn : Int) else v.th.ins[n].t8

/-- The temperatures that count towards the shutdown: those of inputs that are not faulted. -/
def Vexone.shutTemps (v : Vexone) (r : RailId) : List Int :=
  let mask : BitVec 8 := BitVec.ofNat 8 (fld (v.railReg r 4) 15 8) &&& v.declTherms
  v.th.dieT :: ((List.finRange 8).filter fun n => mask.getLsbD n.val && !v.th.ins[n].faulted).map fun n => v.th.ins[n].t8

/-- A guard temperature stands at or above a level in degrees C. -/
def hotAt (ts : List Int) (c : Int) : Bool := ts.any fun t => decide (8 * c ≤ t)

/-- The hottest of some temperatures in whole degrees C, as the byte of EV_RAIL. -/
def hottest (ts : List Int) : Nat := twos 8 (ts.foldl max (-320) / 8)

/-- An over-temperature shutdown, 16 CCLK after the end of the scan that qualified it (11 Tables 11-4, 11-5): it stops a switching
rail; one that is latched off stays so and has both faults (11 R404). -/
def Vexone.otShutdown (v : Vexone) (r : RailId) : Vexone :=
  let x := v.rail r
  if x.switching then
    (v.modRail r fun x => { x with cnt := vcount x.cnt 5 }).railTrip r .otShut 0x0804 0xFF (hottest (v.shutTemps r))
  else if x.st == .latched && !v.latched 0x0804 r.num then
    (v.modRail r fun x => { x with cnt := vcount x.cnt 5 }).latchEv 0x0804 (oneHot 16 r.num) 0x0801
      (v.railPayload r 0x0804 0xFF (hottest (v.shutTemps r)))
  else v

/-- The over-temperature guard of a rail at a scan (11 Table 11-4; 16 R553). -/
def Vexone.guardRail (v : Vexone) (r : RailId) : Vexone :=
  let x := v.rail r
  let ts := v.guardTemps r
  let level : Int := if x.warnLo then (x.warn : Int) - 5 else x.warn
  let warnRun := if hotAt ts level then min 2 (x.warnRun + 1) else 0
  let warnClr := if hotAt ts ((x.warn : Int) - 5) then 0 else min 2 (x.warnClr + 1)
  let shutRun := if hotAt (v.shutTemps r) x.shut then min 2 (x.shutRun + 1) else 0
  let v := v.modRail r fun x =>
    { x with warnRun := warnRun, warnClr := warnClr, shutRun := shutRun, warnLo := x.warnLo && decide (warnClr < 2) }
  let v :=
    if warnRun = 2 && !v.latched 0x0803 r.num then
      (v.modRail r fun x => { x with cnt := vcount x.cnt 4 }).latchEv 0x0803 (oneHot 16 r.num) 0x0801
        (v.railPayload r 0x0803 0xFF (hottest ts))
    else if warnClr = 2 then v.clearFault 0x0803 (oneHot 16 r.num)
    else v
  if shutRun = 2 then v.leave (v.now + 16) (.otShut r) else v

/-- The die-temperature cause of Table 14-1: two scans at or above 125 degrees C, or 120 until it has been judged below
(16 R553); it holds while the die stands at 120 or above. -/
def Vexone.judgeDie (v : Vexone) : Vexone :=
  let t := v.th.dieT
  let lo := decide (t < 960)
  let level : Int := if v.th.hotLo then 960 else 1000
  let run := if level ≤ t then min 2 (v.th.hotRun + 1) else 0
  let was := v.th.hot
  let hot := if run = 2 then true else was && !lo
  let v := { v with th := { v.th with hotLo := v.th.hotLo && !lo, hotRun := run, hot := hot } }
  if hot && !was then (v.latchF 0x0C04 0).forceFans 3 none else v

/-- The end of a THERM_SCAN: every declared input, the four die sensors, then the guards. -/
def Vexone.thermScan (v : Vexone) (codes : Vector (BitVec 12) 8) (die : Vector Int 4) : Vexone :=
  let v := (List.finRange 8).foldl (fun v n => if v.declTherms.getLsbD n.val then v.scanInput n codes[n] else v) v
  let v := { v with th := { v.th with die := die } }
  ((v.guardRail .fb).guardRail .ax).judgeDie

/-! ## Fan and thermistor operations (05 Table 5-8a) -/

def Op.fan (o : Op) : FanId := Fin.ofNat 4 o.target

def Vexone.fanUndeclared (v : Vexone) (c : Nat) : Bool := !v.declFans.getLsbD c

/-- The cause of 14 Table 14-1 that still holds: owner loss, watchdog at 0, die temperature. -/
def Vexone.forceCause (v : Vexone) : Option Nat :=
  firstSome [if v.anyLatched 0x0301 then some 0x0301 else none,
             if v.fwd.armed && v.fwd.count == 0 then some 0x0C03 else none,
             if v.th.hot then some 0x0C04 else none]

/-! ## Fan settings at the tick -/

/-- Every row of a channel armed (14 R501). -/
def Fan.armRows (f : Fan) : Fan := { f with rows := f.rows.map fun r => { r with arm := true } }

/-- FAN_MODE in force (14 R499, R501). -/
def Vexone.tickFanMode (v : Vexone) (c : FanId) (mode duty : Nat) (mask : BitVec 8) : Vexone :=
  v.modFan c fun f =>
    let g := { f with mode := mode, duty := duty, mask := mask }
    if mode = 1 ∧ f.mode ≠ 1 then g.armRows else g

/-- FAN_RESTORE in force: every forced channel returns to its mode at its next FAN_UPDATE, rows armed, tach counts anew
(14 R501, R503, R504). -/
def Vexone.tickFanRestore (v : Vexone) : Vexone :=
  { v with fans := v.fans.map fun f =>
      let g := { f with slowFault := false, slowAt := none, forced := 0 }
      if f.forced = 0 then g else g.armRows }

/-- FAN_WDOG in force (14 R505). -/
def Vexone.tickFanWdog (v : Vexone) (limit : Nat) : Vexone :=
  { v with fwd := { armed := limit != 0, limit := limit, count := limit, due := false } }

/-- The fan watchdog's decrement at a tick (14 R505). -/
def Vexone.fanCount (v : Vexone) : Vexone :=
  if v.fwd.armed && v.fwd.count != 0 then
    { v with fwd := { v.fwd with count := v.fwd.count - 1, due := v.fwd.due || v.fwd.count == 1 } }
  else v

/-- Forced channels drive full speed again when reservoir hold has ended (14 R506). -/
def Vexone.fanResume (v : Vexone) : Vexone :=
  (List.finRange 4).foldl (fun v c => if v.fans[c].forced != 0 then v.setPin c (.duty 100) 100 else v) v

end Sys2Proof.Machine
end

