-- ==== Sys2Proof/Machine/Halyard.lean ====
section
/-! DEFINITION. The Halyard (spec 03): claims, handover, release, takeover, the owner watchdog and owner loss. -/

namespace Sys2Proof.Machine

open Sys2Proof

/-! ## Watchdog minimum (03 R98, R99) -/

/-- MIN for a master as owner. -/
def Halyard.minFor (h : Halyard) (m : Master) : Nat :=
  match m with
  | .m0 => ceilDiv (6 * h.budgetA.replayUs + 1000 * h.budgetA.recovMs) 1000 + 2
  | .m1 => ceilDiv (6 * h.budgetB.replayUs + 1000 * h.budgetB.recovMs) 1000 + 2
  | .m2 => 2

/-- EFF for a master as owner. -/
def Halyard.effFor (h : Halyard) (m : Master) : Nat := max h.limit (h.minFor m)

/-- MIN and EFF for the current owner, 0 without one (03 Table 3-3). -/
def Halyard.min (h : Halyard) : Nat := (h.owner.map h.minFor).getD 0

def Halyard.eff (h : Halyard) : Nat := (h.owner.map h.effFor).getD 0

/-- STATE of 03 Table 3-3. -/
def HalState.code : HalState → Nat
  | .free => 0
  | .owned _ => 1
  | .offered _ _ _ => 2
  | .lapsed _ => 3

/-- A master's number, 3 for none. -/
def ownerNum : Option Master → Nat
  | some m => m.idx.val
  | none => 3

/-! ## Events and results -/

/-- The EV_HALYARD payload (04 Table 4-11). -/
def Vexone.halPayload (v : Vexone) (old new : Nat) (writer : Option Master) (cause cmd : Nat) : List Byte :=
  payload [(1, old), (1, new), (1, ownerNum v.hal.owner), (1, ownerNum writer), (1, cause), (1, cmd),
           (2, v.hal.tag.toNat), (2, v.hal.eff)]

/-- EV_HALYARD of a change from an old state to the present one. -/
def Vexone.halEvent (v : Vexone) (old : Nat) (writer : Option Master) (cause cmd : Nat) : Vexone :=
  v.emit 0x0301 (v.halPayload old v.hal.st.code writer cause cmd)

/-- A Halyard fault whose first latching records EV_HALYARD (16 Table 16-8). -/
def Vexone.halFault (v : Vexone) (code i old : Nat) (writer : Option Master) (cause cmd : Nat) : Vexone :=
  v.latchEv code (oneHot 16 i) 0x0301 (v.halPayload old v.hal.st.code writer cause cmd)

/-- HAL_RES of a master after a HAL_CTRL write (03 Table 3-3). -/
def Vexone.halResult (v : Vexone) (m : Master) (cmd result : Nat) : Vexone :=
  { v with hal := { v.hal with res := vmod v.hal.res m.idx fun r =>
      { lastCmd := BitVec.ofNat 8 cmd, result := BitVec.ofNat 8 result, seq := r.seq + 1 } } }

/-- RESULT alone of a master. -/
def Vexone.setResult (v : Vexone) (m : Master) (result : Nat) : Vexone :=
  { v with hal := { v.hal with res := vmod v.hal.res m.idx fun r => { r with result := BitVec.ofNat 8 result } } }

/-- RESULT of a pending command, where it is still that master's last one (03 Table 3-3). -/
def Vexone.endResult (v : Vexone) (m : Master) (cmd result : Nat) : Vexone :=
  if (v.hal.res[m.idx]).lastCmd = BitVec.ofNat 8 cmd ∧ (v.hal.res[m.idx]).result = 1 then v.setResult m result else v

/-- The pending RESULTs of an offer that ends without a handover: the OFFER of its master and an ACCEPT that waits. -/
def Vexone.endOffer (v : Vexone) (o n : Master) (result : Nat) : Vexone := (v.endResult o 3 result).endResult n 5 result

/-- An observer's ignored writes counted in IGN_WR (03 R90). -/
def Vexone.ignoreWrites (v : Vexone) (n : Nat) : Vexone :=
  { v with hal := { v.hal with ignWr := satTo 15 (v.hal.ignWr + n) } }

def Vexone.setHal (v : Vexone) (st : HalState) : Vexone := { v with hal := { v.hal with st := st } }

/-- A master becomes owner: TAG stored, count := EFF (03 Table 3-5). -/
def Vexone.own (v : Vexone) (m : Master) (tag : BitVec 16) : Vexone :=
  { v with hal := { v.hal with st := .owned m, tag := tag, count := v.hal.effFor m, accept := none } }

/-! ## Commands (03 Tables 3-4, 3-5) -/

/-- The device is quiescent (03 R96). -/
def Vexone.quiescent (v : Vexone) : Bool :=
  (List.finRange 16).all (fun s => !v.segs[s].live) &&
  (List.finRange 4).all (fun n => !v.declMotors.getLsbD n.val || v.motors[n].st == .hold || v.motors[n].st == .disabled) &&
  v.fb.slewAt.isNone && v.ax.slewAt.isNone &&
  v.poolHeld .ownerU == 0 && v.poolHeld .ownerGen == 0 &&
  v.img.load.isNone && v.img.proof != .fetching && v.img.proof != .checking && v.img.swap.isNone && !v.eg.active

/-- A target number as a master. -/
def masterOf (n : BitVec 2) : Option Master :=
  match n.toNat with
  | 0 => some .m0
  | 1 => some .m1
  | 2 => some .m2
  | _ => none

/-- An offer is void: the offering master stays owner. -/
def Vexone.voidOffer (v : Vexone) (m : Master) : Vexone :=
  { v with hal := { v.hal with st := .owned m, accept := none } }

/-- A late kick: fault 0x0302 and EV_HALYARD marked late (03 R102). -/
def Vexone.lateKick (v : Vexone) (m : Master) : Vexone :=
  (v.latchRaw 0x0302 1).emit 0x0301 (v.halPayload v.hal.st.code v.hal.st.code (some m) 5 0)

/-! ## Owner loss (03 R103 to R105) -/

/-- A load that is fetching ends with 0x0218, which the next tick posts (02 R72, R134). A proof past its fetch runs on. -/
def Vexone.failLoad (v : Vexone) : Vexone :=
  if v.img.load.isSome && v.img.proof != .checking then
    { v with
      img := { v.img with load := none, abort := true }
      reads := v.reads.filter fun r => match r.kind with | .image _ _ => false | _ => true }
  else v

/-- A pending swap ends with a status (02 R81, R82). -/
def Vexone.endSwap (v : Vexone) (status detail : Nat) : Vexone :=
  match v.img.swap with
  | some w => ({ v with img := { v.img with swap := none } } : Vexone).complete w.place status detail
  | none => v

/-- A load in progress is aborted and a pending swap cancelled with ST_OWNER_LOST (02 R82). -/
def Vexone.abortLoad (v : Vexone) : Vexone := v.failLoad.endSwap stOwnerLost 0

/-- Admitted operations of the lost owner that have not begun complete with ST_OWNER_LOST (03 R104); an observer's queries
run on. -/
def Vexone.cancelOwnerOps (v : Vexone) (m : Master) : Vexone :=
  (v.ops.filter fun o => o.m == m && o.pool != .obs && o.phase == .admitted).foldl
    (fun v o => v.complete o.place stOwnerLost 0) v

/-- The results of an offer that the loss of the owner voids: refused by the state (03 R110). -/
def Vexone.lapseResults (v : Vexone) : Vexone :=
  match v.hal.st with
  | .offered o n _ => v.endOffer o n 2
  | _ => v

/-- Every declared motor outside the egress set brakes (03 Table 3-6). -/
def Vexone.brakeAll (v : Vexone) : Vexone :=
  (List.finRange 4).foldl (fun v n =>
    if (v.egLane n).isSome || v.motorUndeclared n.val then v else (v.voidMotor n).1.brake n stCancelled) v

/-- The owner-loss sequence begins at the loss of an owner (03 Table 3-6); cause 1 watchdog expiry, 2 port reset. Admission
stops, pending halves, load and swap go, the admitted operations are cancelled and settings that would end the quiet selection
or unfurl are void; the fans, the fault, the furl and the brakes follow at their distances from this edge. -/
def Vexone.ownerLoss (v : Vexone) (m : Master) (cause : Nat) : Vexone :=
  let old := v.hal.st.code
  let v := v.lapseResults
  let v : Vexone := { v with hal := { v.hal with st := .lapsed m, accept := none, count := 0 }
                             dcnt := vcount v.dcnt 2
                             cx := { v.cx with halted := true }
                             sch := { v.sch with quietSel := true }
                             due := v.due.filter fun d => d.set != .resume }
  let v := ((v.discardPairs 1).abortLoad).halEvent old none cause 0
  let v := (v.voidUnfurl 0xFFFF).1.cancelOwnerOps m
  (((v.leave (v.now + 16) .lossFans).leave (v.now + 32) .lossFault).leave (v.now + 5424) .lossFurl).leave
    (v.now + 5440) .lossBrake

/-! ## The Halyard at a tick -/

/-- The watchdog's decrement and the offer's timer (03 R97, Table 3-5). -/
def Vexone.halCount (v : Vexone) : Vexone :=
  match v.hal.st with
  | .owned _ => { v with hal := { v.hal with count := v.hal.count - 1 } }
  | .offered m n k => { v with hal := { v.hal with count := v.hal.count - 1, st := .offered m n (k - 1) } }
  | _ => v

/-- The handover of an accepted offer, unless the owner's counter has just expired (03 Table 3-5, R110). -/
def Vexone.handover (v : Vexone) : Vexone :=
  match v.hal.st, v.hal.accept with
  | .offered o n _, some tag =>
    if v.hal.count = 0 then v
    else ((((v.endResult o 3 0).endResult n 5 0).own n tag).halEvent 2 (some n) 0 5)
  | _, _ => v

/-- Egress becoming active voids an offer: fault 0x0305 (03 Table 3-5, R109). -/
def Vexone.egressVoidsOffer (v : Vexone) : Vexone :=
  match v.hal.st with
  | .offered o n _ =>
    let v := (v.endOffer o n 3).voidOffer o
    (v.latchRaw 0x0305 (oneHot 16 o.idx.val)).emit 0x0301 (v.halPayload 2 1 none 4 0)
  | _ => v

/-! ## Writes of its registers -/

/-- CLAIM. -/
def Vexone.claim (v : Vexone) (m : Master) (tag : BitVec 16) : Vexone :=
  match v.hal.st with
  | .free => ((v.own m tag).halEvent 0 (some m) 0 1).halResult m 1 0
  | .lapsed _ => v.halResult m 1 2
  | _ => (v.halResult m 1 2).latchF 0x0303 m.idx.val

/-- RELEASE. -/
def Vexone.release (v : Vexone) (m : Master) : Vexone :=
  if v.hal.st = .owned m then
    if v.quiescent then
      ((({ v with hal := { v.hal with st := .free, count := 0, tag := 0 } } : Vexone).halEvent 1 (some m) 0 2).halResult m 2 0)
    else (v.halResult m 2 5).latchF 0x0308 m.idx.val
  else v.halResult m 2 2

/-- OFFER. -/
def Vexone.offer (v : Vexone) (m : Master) (target : BitVec 2) : Vexone :=
  if v.hal.st = .owned m then
    if v.eg.active then (v.halResult m 3 3).halFault 0x0305 m.idx.val 1 (some m) 4 3
    else match masterOf target with
      | some n =>
        if n = m then v.halResult m 3 2
        else ((v.setHal (.offered m n 64)).halEvent 1 (some m) 0 3).halResult m 3 1
      | none => v.halResult m 3 2
  else v.halResult m 3 2

/-- WITHDRAW. -/
def Vexone.withdraw (v : Vexone) (m : Master) : Vexone :=
  match v.hal.st with
  | .offered o n _ => if o = m then (((v.endOffer o n 2).voidOffer o).halEvent 2 (some m) 0 4).halResult m 4 0 else v.halResult m 4 2
  | _ => v.halResult m 4 2

/-- ACCEPT: pending until the tick; a further one replaces the TAG; at the very tick at which the owner's counter expires it is
refused (03 R110). In the frame in which the sequencer became active an ACCEPT is refused with RESULT 3 (03 R109); DESIGN
CHOICE: of every master but the owner, for State does not keep to whom a voided offer had been made (log entry 39). -/
def Vexone.accept (v : Vexone) (m : Master) (tag : BitVec 16) : Vexone :=
  match v.hal.st with
  | .offered _ n _ =>
    if n = m then
      if v.hal.count = 0 then v.halResult m 5 2
      else if v.eg.active then v.halResult m 5 3
      else ({ v with hal := { v.hal with accept := some tag } } : Vexone).halResult m 5 1
    else v.halResult m 5 2
  | .owned o =>
    if o ≠ m ∧ v.eg.active ∧ v.eg.eFrame = v.clk.frame then v.halResult m 5 3 else v.halResult m 5 2
  | _ => v.halResult m 5 2

/-- DECLINE: the offer is void; the offering master's RESULT leaves pending (log entry 24). -/
def Vexone.decline (v : Vexone) (m : Master) : Vexone :=
  match v.hal.st with
  | .offered o n _ =>
    if n = m then (((v.endResult o 3 2).voidOffer o).halEvent 2 (some m) 0 6).halResult m 6 0 else v.halResult m 6 2
  | _ => v.halResult m 6 2

/-- TAKEOVER of a lapsed Halyard; the lost owner's parked completions are freed (03 R104, R106; 04 R154). -/
def Vexone.takeover (v : Vexone) (m : Master) (tag : BitVec 16) : Vexone :=
  match v.hal.st with
  | .lapsed lost =>
    let v := v.discardPairs 0
    let v := { v with ops := v.ops.filter fun o => !(o.m == lost && o.parked && o.isComplete) }
    let v := { v with cx := { v.cx with halted := false, abandon := v.cx.abandon || (m != lost && v.cx.spoil.isSome) } }
    ((v.own m tag).halEvent 3 (some m) 0 7).halResult m 7 0
  | .owned _ => (v.halResult m 7 4).latchF 0x0307 m.idx.val
  | _ => v.halResult m 7 2

/-- HAL_CMD_UNDEFINED: any other command value, RESULT 2 (03 Table 3-4). -/
def Vexone.halUndefined (v : Vexone) (m : Master) (cmd : BitVec 8) : Vexone :=
  if 1 ≤ cmd.toNat ∧ cmd.toNat ≤ 7 then v else v.halResult m cmd.toNat 2

/-- HAL_KICK (03 R97, R102, R108; 14 R505, R513). -/
def Vexone.kick (v : Vexone) (m : Master) : Vexone :=
  match v.hal.st with
  | .lapsed lost => if lost = m then v.lateKick m else v
  | _ =>
    if v.isOwner m then
      if v.hal.count = 0 then v.lateKick m
      else ({ v with hal := { v.hal with count := v.hal.effFor m } } : Vexone).fanKick m
    else v

/-- OWD_LIMIT_WRITE (03 R90, R99; 00 R8, R9): below MIN it is refused with RESULT 6 and fault 0x0304; without an owner the
smallest LIMIT is 2. A write that enables no byte of LIMIT reaches only the read-only COUNT and is ignored. -/
def Vexone.writeLimit (x : Vexone) (m : Master) (be : BitVec 4) (w : Word) : Vexone :=
  if x.isOwner m || x.hal.st == .free then
    if !(be.getLsbD 0 || be.getLsbD 1) then x
    else
    let lim := fld (mergeBytes (BitVec.ofNat 32 x.hal.limit) w be) 15 0
    let least := max 2 x.hal.min
    if lim < least then (x.setResult m 6).latchF 0x0304 m.idx.val
    else { x with hal := { x.hal with limit := lim } }
  else x.ignoreWrites 1

end Sys2Proof.Machine
end

