-- ==== Sys2Proof/Machine/Images.lean ====
section
/-! DEFINITION. Images (spec 02): their format, the proof pass of Table 2-8 in the order of section 2.5, loads, swaps, key
slots and diagnostic requests (05 Table 5-9). -/

namespace Sys2Proof.Machine

open Sys2Proof

/-! ## The format (02 section 2.3) -/

/-- A template entry at an offset (02 Table 2-5). -/
def entryAt (raw : List Byte) (o : Nat) : Entry :=
  let w0 := leAt raw o 4
  let w1 := leAt raw (o + 4) 4
  let w2 := leAt raw (o + 8) 4
  { engines := BitVec.ofNat 6 (bitsOf w0 31 26), kind := bitsOf w0 25 24, start := bitsOf w0 17 0,
    cls := bitsOf w1 31 30, partner := bitsOf w1 29 24, dur := bitsOf w1 17 0, code := bitsOf w2 31 16,
    param := bitsOf w2 15 0, tracks := BitVec.ofNat 32 (leAt raw (o + 12) 4) }

/-- The reserved bits of an entry are zero. -/
def entryReservedOk (raw : List Byte) (o : Nat) : Bool :=
  bitsOf (leAt raw o 4) 23 18 == 0 && bitsOf (leAt raw (o + 4) 4) 23 18 == 0

/-- The resource declaration (02 Table 2-3). -/
def declAt (raw : List Byte) : Decl :=
  let u8 := fun o => leAt raw (0x60 + o) 1
  let u16 := fun o => leAt raw (0x60 + o) 2
  { deploy := u8 0, lanes := BitVec.ofNat 4 (u8 1), segs := BitVec.ofNat 16 (u16 2), motors := BitVec.ofNat 4 (u8 4),
    motorMode := BitVec.ofNat 8 (u8 5), rails := BitVec.ofNat 3 (u8 6), fans := BitVec.ofNat 4 (u8 7),
    therms := BitVec.ofNat 8 (u8 8), pockets := u8 9, lins := BitVec.ofNat 16 (u16 0x0A), fieldLimit := u16 0x0C,
    fbusMax := u16 0x0E, mbusNom := u16 0x10, cxReserve := u8 0x12, loadQuota := u8 0x13 }

/-- The engine bit, tracks and minimum duration of an activity code (02 Table 2-6, 15 Table 15-1); the minimum of
CX_WINDOW is for one move. -/
structure ActInfo where
  code : Nat
  engine : BitVec 6
  tracks : BitVec 32
  min : Nat
  deriving DecidableEq, Repr

def actTable : List ActInfo :=
  [ ⟨0x0101, 0x01, 0x0000FFFF, 64⟩, ⟨0x0102, 0x01, 0x0000FFFF, 80384⟩, ⟨0x0103, 0x01, 0x0000FFFF, 128⟩,
    ⟨0x0104, 0x01, 0x0000FFFF, 4608⟩, ⟨0x0105, 0x01, 0x0000FFFF, 512⟩,
    ⟨0x0201, 0x02, 0x00030000, 256⟩, ⟨0x0202, 0x02, 0x00030000, 128⟩, ⟨0x0203, 0x02, 0x00040000, 256⟩,
    ⟨0x0204, 0x02, 0x00040000, 43392⟩, ⟨0x0205, 0x02, 0x00780000, 128⟩,
    ⟨0x0301, 0x04, 0x07800000, 128⟩, ⟨0x0302, 0x04, 0x07800000, 64⟩, ⟨0x0303, 0x04, 0x08000000, 128⟩,
    ⟨0x0304, 0x04, 0x07800000, 128⟩,
    ⟨0x0401, 0x08, 0x10000000, 384⟩, ⟨0x0402, 0x08, 0x10000000, 768⟩, ⟨0x0501, 0x10, 0x20000000, 128⟩,
    ⟨0x0601, 0x20, 0x40000000, 224⟩ ]

def actInfo (c : Nat) : Option ActInfo := actTable.find? fun a => a.code == c

/-- A valid PARAM (02 Table 2-6): a pocket of 0 to 63, in a rack image one below POCKETS (18 R607). -/
def paramOk (d : Decl) (code param : Nat) : Bool :=
  if code = 0x0105 then decide (param < if d.deploy = 2 then d.pockets else 64)
  else if code = 0x0501 then decide (param ≤ 1)
  else if code = 0x0601 then decide (1 ≤ param ∧ param ≤ 16)
  else param == 0

/-! ## Invariants of one entry (02 Table 2-8) -/

/-- IV-09, its reserved bits apart. -/
def Entry.formed (d : Decl) (e : Entry) : Bool :=
  if e.kind = 0 then
    match actInfo e.code with
    | some a => e.engines == a.engine && paramOk d e.code e.param && e.tracks != 0 && e.tracks &&& ~~~a.tracks == 0 &&
        e.cls == 0 && e.partner == 0
    | none => false
  else e.kind == 1 && e.code == 0 && e.param == 0 && (e.cls == 2 || e.partner == 0)

/-- IV-10: the segments, rails, fans and motors that an entry names are declared. -/
def Entry.declared (d : Decl) (e : Entry) : Bool :=
  let ok : BitVec 32 := d.segs.zeroExtend 32 ||| (d.rails.zeroExtend 32 <<< 16) ||| (d.fans.zeroExtend 32 <<< 19) |||
    (d.motors.zeroExtend 32 <<< 23)
  e.tracks &&& 0x07FFFFFF &&& ~~~ok == 0

/-- IV-11: the key of R64. -/
def Entry.keyLt (a b : Entry) : Bool :=
  decide (a.start < b.start ∨ (a.start = b.start ∧ (a.engines.toNat < b.engines.toNat ∨
    (a.engines = b.engines ∧ a.tracks.toNat < b.tracks.toNat))))

/-- IV-14: minimum durations (15 R516, R517). -/
def Entry.longEnough (e : Entry) : Bool :=
  if e.kind = 0 then
    match actInfo e.code with
    | some a => decide ((if e.code = 0x0601 then 224 * e.param else a.min) ≤ e.dur)
    | none => false
  else if e.cls = 0 then e.dur == 64 else decide (512 ≤ e.dur)

/-- The tracks 0 to 30 and, numbered from 31, the command channels that an entry holds (02 R57). -/
def Entry.holds (e : Entry) : List Nat :=
  (onesOf e.tracks).filter (· < 31) ++ (if e.tracks.getLsbD 31 then (onesOf e.engines).map (· + 31) else [])

/-- The failure of a proof: code, template and entry index. -/
structure Reject where
  code : Nat
  tpl : Nat := 0xFFFF
  entry : Nat := 0xFFFF
  deriving DecidableEq, Repr

/-- The entries of a template checked one by one, as the pseudocode of section 2.5 orders it: `busy` holds for every track
and channel the edge after the last one held. -/
def checkEntries (raw : List Byte) (d : Decl) (t : Nat) : Nat → Nat → Option Entry → Vector Nat 37 → Nat → Option Reject
  | 0, _, _, _, _ => none
  | n + 1, k, prev, busy, o =>
    let e := entryAt raw o
    if !(entryReservedOk raw o && e.formed d) then some ⟨0x0209, t, k⟩
    else if !e.declared d then some ⟨0x020A, t, k⟩
    else if prev.any (e.keyLt ·) then some ⟨0x020B, t, k⟩
    else if 216704 < e.start + e.dur then some ⟨0x020C, t, k⟩
    else if !e.longEnough then some ⟨0x020E, t, k⟩
    else if e.holds.any (fun c => e.start < busy.toList.getD c 0) then some ⟨0x020D, t, k⟩
    else checkEntries raw d t n (k + 1) (some e) (e.holds.foldl (fun b c => vmodN b c fun _ => e.start + e.dur) busy) (o + 16)

/-! ## Invariants of one template (02 Table 2-8) -/

/-- The slot in which an entry starts. -/
def Entry.slot (e : Entry) : Nat := e.start / slotLen

/-- Cadence n (02 R69) of the slots in which a set of entries starts, ascending. -/
def cadence (n : Nat) (slots : List Nat) : Bool :=
  let a := (n - 1) / 2
  let b := n - 1 - a
  match slots, slots.getLast? with
  | s1 :: r, some sm => decide (s1 ≤ a ∧ 39 - sm ≤ b) && ((s1 :: r).zip r).all fun p => decide (p.2 - p.1 ≤ n)
  | _, _ => false

/-- The start slots of the activities of a code. -/
def slotsOf (es : List Entry) (code : Nat) (test : Entry → Bool := fun _ => true) : List Nat :=
  (es.filter fun e => e.kind == 0 && e.code == code && test e).map Entry.slot

def cleatsOf (es : List Entry) (cls : Nat) : List Entry := es.filter fun e => e.kind == 1 && e.cls == cls

/-- IV-15 for a P cleat's tracks. -/
def pTracksOk (d : Decl) (e : Entry) : Bool :=
  e.engines == 1 &&
  if d.deploy = 1 then
    (List.range 4).any fun l => d.lanes.getLsbD l &&
      (e.tracks == BitVec.ofNat 32 (3 <<< (4 * l)) || e.tracks == BitVec.ofNat 32 (0xC <<< (4 * l)))
  else (List.range 16).any fun s => d.segs.getLsbD s && e.tracks == oneHot 32 s

/-- The record of a body's counts (02 R67), as its 32 bytes. -/
def budgetOf (es : List Entry) : List Byte :=
  let sat := fun n => satTo 255 n
  let wins := es.filter fun e => e.kind == 0 && e.code == 0x0501
  ((List.range 6).flatMap fun k => le 4 ((es.filter fun e => e.engines.getLsbD k).map (·.dur)).sum) ++
  ([sat (cleatsOf es 0).length, sat (cleatsOf es 1).length, sat (cleatsOf es 2).length, sat (cleatsOf es 3).length,
    sat (wins.filter fun e => e.param % 2 == 1).length, sat wins.length,
    sat ((es.filter fun e => e.kind == 0 && e.code == 0x0601).map (·.param)).sum, 0].flatMap (le 1))

/-- IV-15 to IV-23 of a template of a kind (0 ordinary, 1 egress, 2 quiet), in order. -/
def checkTemplate (d : Decl) (phase kind : Nat) (budget : List Byte) (es : List Entry) : Option Nat :=
  let ps := cleatsOf es 2
  let no := fun cs => cs.all fun c => (slotsOf es c).isEmpty
  let moves := ((es.filter fun e => e.kind == 0 && e.code == 0x0601).map (·.param)).sum
  let us := cleatsOf es 0
  if !(decide ((es.filter fun e => e.kind == 1).length ≤ 96) &&
      (cleatsOf es 1).all (fun e => e.tracks == 0x80000000) &&
      (cleatsOf es 3).all (fun e => e.tracks != 0 && e.tracks &&& 0x3FFFFFFF == 0) && ps.all (pTracksOk d)) then some 0x020F
  else if !(us.map (·.start) == (List.range 40).map (fun k => slotLen * k + phase) &&
      us.all fun e => e.engines == 0x07 && e.tracks == 0x80000000) then some 0x0210
  else if !(cadence 5 (slotsOf es 0x0501 fun e => e.param % 2 == 1) && decide (8 ≤ (slotsOf es 0x0501).length)) then
    some 0x0211
  else if !(cadence 4 (slotsOf es 0x0401) && cadence 40 (slotsOf es 0x0402)) then some 0x0212
  else if !(ps.all fun e =>
      decide (8 ≤ (e.slot - e.partner) + (e.partner - e.slot)) &&
      match ps.filter fun x => x.slot == e.partner && x.tracks == e.tracks with
      | [x] => x.partner == e.slot
      | _ => false) then some 0x0213
  else if kind = 1 && !(no [0x0101, 0x0102, 0x0105] && ps.isEmpty && (cleatsOf es 3).isEmpty &&
      (onesOf d.motors).all (fun n => cadence 4 (slotsOf es 0x0304 fun e => e.tracks.getLsbD (23 + n))) &&
      (d.motors == 0 || cadence 4 (slotsOf es 0x0303))) then some 0x0214
  else if kind = 2 && !(no [0x0101, 0x0102, 0x0105, 0x0301, 0x0304] && ps.isEmpty &&
      (onesOf d.motors).all (fun n => !(slotsOf es 0x0302 fun e => e.tracks.getLsbD (23 + n)).isEmpty)) then some 0x0215
  else if budget != budgetOf es then some 0x0216
  else if kind = 0 && satTo 255 moves < d.cxReserve then some 0x0217
  else none

/-! ## Invariants of the whole image (02 Table 2-8) -/

def allZero (bs : List Byte) : Bool := bs.all (· == 0)

/-- ENTRIES, KIND and CLEATS of the directory record of template t. -/
def dirEntries (raw : List Byte) (t : Nat) : Nat := leAt raw (0xA0 + 16 * t + 4) 2

def dirKind (raw : List Byte) (t : Nat) : Nat := leAt raw (0xA0 + 16 * t + 6) 1

def dirCleats (raw : List Byte) (t : Nat) : Nat := leAt raw (0xA0 + 16 * t + 7) 1

/-- IV-01 against the length written to the load registers. -/
def headerOk (raw : List Byte) (len : Nat) : Bool :=
  let n := leAt raw 0x14 1
  leAt raw 0 4 == 0x47474952 && leAt raw 4 2 == 1 && leAt raw 6 2 == 96 && leAt raw 8 4 == len &&
  leAt raw 0x48 4 + 136 == len && decide (3296 ≤ len ∧ len ≤ 557056) &&
  leAt raw 0x17 1 == 0 && leAt raw 0x1C 4 == 0 && allZero ((raw.drop 0x50).take 16) &&
  allZero ((raw.drop 0x74).take 44) && (List.range n).all (fun t => leAt raw (0xA0 + 16 * t + 12) 4 == 0) &&
  leAt raw (len - 136 + 1) 3 == 0 && leAt raw (len - 136 + 0x84) 4 == 0

/-- The lengths that IV-02 gives the six sections. -/
def sectLens (raw : List Byte) : List Nat :=
  let n := leAt raw 0x14 1
  [64, 16 * n, 16 * ((List.range n).map (dirEntries raw)).sum, (leAt raw 0x18 2 + 7) / 8 * 8, 32 * n, 136]

/-- The offsets that follow from the lengths. -/
def sectOfs (lens : List Nat) (k : Nat) : Nat := 96 + (lens.take k).sum

/-- IV-02. -/
def sectionsOk (raw : List Byte) : Bool :=
  let lens := sectLens raw
  (List.range 6).all fun k => leAt raw (0x20 + 8 * k) 4 == sectOfs lens k && leAt raw (0x24 + 8 * k) 4 == lens.getD k 0

/-- IV-06. -/
def declOk (raw : List Byte) (d : Decl) : Bool :=
  let u8 := fun o => leAt raw (0x60 + o) 1
  (d.deploy == 1 || d.deploy == 2) && decide (u8 1 < 16 ∧ u8 4 < 16 ∧ u8 6 < 8 ∧ u8 7 < 16) &&
  decide (d.fieldLimit ≤ 600 ∧ 200 ≤ d.fbusMax ∧ d.fbusMax ≤ 1400 ∧ 80 ≤ d.mbusNom ∧ d.mbusNom ≤ 600) &&
  decide (4 ≤ d.cxReserve ∧ d.cxReserve ≤ 64 ∧ 2 ≤ d.loadQuota ∧ d.loadQuota ≤ 128) &&
  (List.range 4).all (fun n =>
    let m := bitsOf d.motorMode.toNat (2 * n + 1) (2 * n)
    m != 3 && (d.motors.getLsbD n || m == 0)) &&
  if d.deploy = 1 then
    d.lanes != 0 && d.pockets == 0 && d.motors &&& ~~~d.lanes == 0 &&
    d.segs == BitVec.ofNat 16 ((onesOf d.lanes).map (fun l => 0xF <<< (4 * l))).sum
  else d.lanes == 0 && d.motors == 0 && decide (1 ≤ d.pockets ∧ d.pockets ≤ 64)

/-- The offset of the body of template t. -/
def bodyOfs (raw : List Byte) (t : Nat) : Nat :=
  sectOfs (sectLens raw) 2 + 16 * ((List.range t).map (dirEntries raw)).sum

/-- The body of template t. -/
def bodyOf (raw : List Byte) (t : Nat) : List Entry :=
  (List.range (dirEntries raw t)).map fun k => entryAt raw (bodyOfs raw t + 16 * k)

/-- IV-07. -/
def templatesOk (raw : List Byte) : Bool :=
  let n := leAt raw 0x14 1
  decide (3 ≤ n ∧ n ≤ 64) &&
  (List.range n).all (fun t =>
    (dirKind raw t == (if t = leAt raw 0x15 1 then 1 else if t = leAt raw 0x16 1 then 2 else 0)) &&
    leAt raw (0xA0 + 16 * t) 4 == bodyOfs raw t && decide (1 ≤ dirEntries raw t ∧ dirEntries raw t ≤ 512) &&
    dirCleats raw t == ((bodyOf raw t).filter fun e => e.kind == 1).length) &&
  decide (leAt raw 0x15 1 < n ∧ leAt raw 0x16 1 < n) && leAt raw 0x15 1 != leAt raw 0x16 1

/-- The sequence bytes. -/
def seqOf (raw : List Byte) : List Nat :=
  ((raw.drop (sectOfs (sectLens raw) 3)).take (leAt raw 0x18 2)).map (·.toNat)

/-- IV-08. -/
def sequenceOk (raw : List Byte) : Bool :=
  let n := leAt raw 0x18 2
  (List.range 13).any (fun k => n == 2 ^ k) &&
  (seqOf raw).all (fun t => decide (t < leAt raw 0x14 1) && dirKind raw t == 0) &&
  allZero ((raw.drop (sectOfs (sectLens raw) 3 + n)).take ((n + 7) / 8 * 8 - n))

/-- IV-03 to IV-05 against the key slots: the background check (02 R68). -/
def signatureCheck (raw : List Byte) (otp : Otp) : Option Reject :=
  let sig := sectOfs (sectLens raw) 5
  let slot := leAt raw sig 1
  let at_ := fun o n => (raw.drop (sig + o)).take n
  match otp.slots[slot]? with
  | none => some ⟨0x0203, 0xFFFF, 0xFFFF⟩
  | some k =>
    if k.st ≠ .fused then some ⟨0x0203, 0xFFFF, 0xFFFF⟩
    else if sha256 (at_ 4 64) != k.hash.toList then some ⟨0x0204, 0xFFFF, 0xFFFF⟩
    else if P256.verify (beNat (sha256 (raw.take sig))) (beNat (at_ 4 32)) (beNat (at_ 0x24 32)) (beNat (at_ 0x44 32))
        (beNat (at_ 0x64 32)) then none
    else some ⟨0x0205, 0xFFFF, 0xFFFF⟩

/-- IV-09 to IV-23 over the templates, in index order. -/
def checkTemplates (raw : List Byte) (d : Decl) : Option Reject :=
  firstSome ((List.range (leAt raw 0x14 1)).map fun t =>
    match checkEntries raw d t (dirEntries raw t) 0 none (Vector.replicate 37 0) (bodyOfs raw t) with
    | some r => some r
    | none =>
      (checkTemplate d (leAt raw 0x1A 2) (dirKind raw t) ((raw.drop (sectOfs (sectLens raw) 4 + 32 * t)).take 32)
        (bodyOf raw t)).map fun c => ⟨c, t, 0xFFFF⟩)

/-- The first failure of the proof (02 R71). The template index is that of a failure found while the templates are checked, and
0xFFFF for every other; DESIGN CHOICE: IV-07 and IV-08 among them, though one template's record or one sequence byte may be
the one that fails, for R73 does not say when an index applies (log entry 107). -/
def proofReject (raw : List Byte) (len : Nat) (otp : Otp) : Option Reject :=
  if !headerOk raw len then some ⟨0x0201, 0xFFFF, 0xFFFF⟩
  else if !sectionsOk raw then some ⟨0x0202, 0xFFFF, 0xFFFF⟩
  else if !declOk raw (declAt raw) then some ⟨0x0206, 0xFFFF, 0xFFFF⟩
  else if !templatesOk raw then some ⟨0x0207, 0xFFFF, 0xFFFF⟩
  else if !sequenceOk raw then some ⟨0x0208, 0xFFFF, 0xFFFF⟩
  else (checkTemplates raw (declAt raw)).or (signatureCheck raw otp)

/-- The image that proved bytes hold. -/
def imageOf (raw : List Byte) : Image :=
  { id := BitVec.ofNat 32 (leAt raw 0x0C 4), len := leAt raw 8 4, egressTpl := leAt raw 0x15 1,
    quietTpl := leAt raw 0x16 1, decl := declAt raw, tpls := (List.range (leAt raw 0x14 1)).map (bodyOf raw),
    seq := seqOf raw, keySlot := leAt raw (sectOfs (sectLens raw) 5) 1 }

/-- E of 02 R72: the ENTRIES of the directory records that lie whole inside the bytes, each at most 512. -/
def proofEntries (raw : List Byte) : Nat :=
  ((List.range (min (leAt raw 0x14 1) 64)).map fun t =>
    if 0xA0 + 16 * t + 16 ≤ raw.length then min 512 (dirEntries raw t) else 0).sum

/-- The frames of checking of 02 R72. -/
def checkFrames (raw : List Byte) : Nat := max 6 (ceilDiv (proofEntries raw) 2048 + 1)

/-! ## Loads (02 R72 to R74, R82; 17 R591) -/

/-- STATE of 17 Table 17-8. -/
def ProofSt.code : ProofSt → Nat
  | .idle => 0
  | .fetching => 1
  | .checking => 2
  | .passed => 3
  | .failed => 4

/-- EV_PROOF (04 Table 4-11). -/
def Vexone.proofEvent (v : Vexone) : Vexone :=
  v.emit 0x0201 (payload [(1, v.img.proof.code), (1, 0), (2, v.img.code), (2, v.img.tpl.toNat), (2, v.img.entry.toNat),
    (4, v.img.proofId.toNat), (4, v.img.fetched)])

/-- A failure posted: PROOF_STAT, the latched code, the counter and the event (02 R73, 16 R561). -/
def Vexone.proofFail (v : Vexone) (r : Reject) : Vexone :=
  let v : Vexone := { v with img := { v.img with proof := .failed, code := r.code, tpl := BitVec.ofNat 16 r.tpl,
                                                 entry := BitVec.ofNat 16 r.entry }
                             dcnt := vcount v.dcnt 4 }
  (v.latchRaw r.code 1).proofEvent

/-- A proof or a load fails: the standby store is invalid (02 R73). -/
def Vexone.rejectImage (v : Vexone) (r : Reject) : Vexone :=
  let v := v.proofFail r
  { v with img := { v.img with standby := { raw := [], image := none } } }

/-- Fetch per frame in bytes (02 R72). -/
def Vexone.loadQuota (v : Vexone) : Nat := (v.decl.map (fun d => 512 * d.loadQuota)).getD 65536

/-- Bytes laid at an offset of a growing store. -/
def splice (raw : List Byte) (ofs : Nat) (bs : List Byte) : List Byte :=
  padTo ofs raw ++ bs ++ raw.drop (ofs + bs.length)

/-- The IMG_ID of the bytes fetched. -/
def Vexone.noteId (v : Vexone) : Vexone :=
  { v with img := { v.img with proofId := BitVec.ofNat 32 (leAt v.img.standby.raw 0x0C 4) } }

/-- The frame that ended issued less than its whole quota, or than what was left of the image; the frame of the START has
none. -/
def Vexone.fellShort (v : Vexone) (ld : Load) : Bool :=
  decide (ld.start + 1 < v.clk.ticks ∧ ld.issued < min v.loadQuota (ld.len + ld.issued - ld.asked))

/-- The frames of a proof, counted from the one after the START (02 R72). -/
def Vexone.proofFrames (v : Vexone) (ld : Load) : Nat :=
  ceilDiv ld.len v.loadQuota + checkFrames v.img.standby.raw + ld.short

/-- At a tick: an aborted load is posted; a started load is fetching, and a frame that left part of its quota unissued has
fallen short (02 R72; 04 R134; 17 R591). -/
def Vexone.tickLoad (v : Vexone) : Vexone :=
  if v.img.abort then
    ({ v with img := { v.img with abort := false } } : Vexone).noteId.rejectImage ⟨0x0218, 0xFFFF, 0xFFFF⟩
  else
    match v.img.load with
    | none => v
    | some ld =>
      let ld' := { ld with quotaLeft := if ld.asked < ld.len then ld.quotaLeft + v.loadQuota else 0
                           issued := 0
                           short := ld.short + bit (v.fellShort ld) }
      { v with img := { v.img with
          load := some ld'
          proof := if v.img.fetched = ld.len then .checking else .fetching } }

/-! ## Swaps (02 R76, R77) -/

/-- A rail on, or on its way (02 R77). -/
def Rail.inUse (r : Rail) : Bool := r.switching || r.st == .delay

/-- A resource in use that an image would remove, or a MOTOR_MODE it would change (02 R77, 12 R455). -/
def Vexone.swapDrops (v : Vexone) (im : Image) : Bool :=
  let d := im.decl
  v.unfurled &&& ~~~d.segs != 0 ||
  (List.finRange 4).any (fun n =>
    let st := v.motors[n].st
    v.declMotors.getLsbD n.val && st != .hold && st != .disabled &&
      (!d.motors.getLsbD n.val || bitsOf d.motorMode.toNat (2 * n.val + 1) (2 * n.val) != v.motorMode n.val)) ||
  (v.fb.inUse && !d.rails.getLsbD 0) || (v.ax.inUse && !d.rails.getLsbD 1) || (v.res.on && !d.rails.getLsbD 2)

/-- The DETAIL of a refused swap (05 Table 5-9). -/
def Vexone.swapRefusal (v : Vexone) : Option Nat :=
  match v.img.standby.image with
  | none => some 1
  | some im =>
    if v.img.swap.isSome then some 2
    else if v.eg.active || v.sch.run == .egress then some 3
    else if v.decl.any (·.deploy != im.decl.deploy) then some 4
    else if v.swapDrops im then some 5
    else none

/-- The frame length of a bench (01 R23). -/
def benchOf (f : BitVec 32) : Nat := f.toNat / 64

/-! ## Key slots (05 R181, R182) -/

/-- The slot that an operation names. -/
def Op.slot (o : Op) : Fin 4 := Fin.ofNat 4 o.target

def keyMagic : Word := 0x45535546

/-- A revocation at the tick: a standby image that the slot signed loses its proof, and a swap to it its operation. DESIGN CHOICE:
where that swap was due at this very tick the frame runs, under the image that stays active, the template index that edge
200,000 read from the other image's sequence; 02 R78 gives that index to the frame and does not say what a swap cancelled at
the tick makes of it (log entry 109). -/
def State.tickKeyRevoke (s : State) (k : Fin 4) : State :=
  let slot := s.otp.slots[k]
  let otp : Otp := { slots := s.otp.slots.set k { slot with st := .revoked } }
  let v := s.vx
  let v : Vexone :=
    if v.img.standby.image.any (fun im => im.keySlot == k.val) then
      let v := v.endSwap stImageRefused 0
      { v with img := { v.img with
          standby := { v.img.standby with image := none }
          proof := if v.img.load.isSome then v.img.proof else .idle
          code := if v.img.load.isSome then v.img.code else 0 } }
    else v
  { s with otp := otp, vx := v }

/-! ## Writes of its registers -/

/-- IMAGE_LOAD_START (02 R74; 16 R561; 17 R591, R603). DESIGN CHOICE: a START that meets a case in which R74 ignores it and one
in which R74 refuses it is ignored, and a load that has been aborted counts as in progress until its failure is posted (log
entry 108). -/
def Vexone.startLoad (v : Vexone) (m : Master) (w : Word) : Vexone :=
  if !v.isOwner m then v.ignoreWrites 1
  else if fld w 0 0 = 0 then v
  else if v.img.load.isSome || v.img.abort || v.img.proof == .fetching || v.img.proof == .checking || v.img.swap.isSome then v
  else
    let len := fld (v.written 0x6008) 19 0
    let addr := (v.written 0x6000).toNat + (v.written 0x6004).toNat * 2 ^ 32
    if m = .m2 || 557056 < len then v.proofFail ⟨0x0218, 0xFFFF, 0xFFFF⟩
    else
      let v := { v with faults := v.faults.map fun (f : FaultEntry) =>
          if isProofCode f.code then { f with mask := 0, first := 0xFFFFFFFF } else f }
      { v with img := { v.img with
          standby := { raw := [], image := none }
          load := some { m := m, addr := addr, len := len, asked := 0, quotaLeft := 0, issued := 0,
                         start := v.clk.ticks, short := 0 }
          proofId := 0
          fetched := 0 } }

end Sys2Proof.Machine
end

