-- ==== Sys2Proof/Machine/Rings.lean ====
section
/-! DEFINITION. Rings, doorbells and DMA windows (spec 04, 15 sections 15.3 and 15.4): the scan of R129, the order of
service of R132, fetch and decode (R133, R136), records, interrupts (R149) and failed reads. -/

namespace Sys2Proof.Machine

open Sys2Proof

/-! ## Indices (04 R120, R129, R130) -/

/-- Free entries of a device-produced ring, none where it is disabled (04 R118, R130). -/
def Vexone.ringFree (v : Vexone) (m : Master) (r : Fin 10) : Nat :=
  if v.ringOn m.idx r then v.ringSize m.idx r - ((v.ring m r).dev - (v.ring m r).host).toNat else 0

/-- A ring fault with EV_RING (04 Table 4-11, 16 Table 16-8); the status is that of the failed read. -/
def Vexone.ringFault (v : Vexone) (code : Nat) (m : Master) (r : Fin 10) (status : Nat := 0) : Vexone :=
  v.latchEv code (oneHot 16 m.idx) 0x0401
    (payload [(1, m.idx), (1, r), (2, code), (2, (v.ring m r).dev.toNat), (2, (v.ring m r).host.toNat), (1, status)])

/-! ## Doorbells (04 R118, R128, R129) -/

/-- A doorbell write recorded: into a disabled ring it is ignored with fault 0x0408; bytes not enabled come from the value
recorded since the last service, or from HOST_IDX. -/
def Vexone.ringBell (v : Vexone) (m : Master) (r : Fin 10) (be : BitVec 4) (w : Word) : Vexone :=
  if be.extractLsb' 0 2 = 0 then v
  else if !(v.ringOn m.idx r) then v.ringFault 0x0408 m r
  else
    let x := v.ring m r
    let old := x.bell.getD x.host
    let new := (mergeBytes (old.zeroExtend 32) w be).extractLsb' 0 16
    v.modRing m r fun x => { x with bell := some new, bellAt := v.now }

/-- The ring of a head doorbell (04 Table 4-6). -/
def headRing : HeadRing → Fin 10
  | .cq cl => cqOf cl
  | .eq => 8
  | .tq => 9

/-- Whether a recorded value is valid (04 R129). -/
def bellValid (sub : Bool) (b dev host : BitVec 16) (n : Nat) : Bool :=
  if sub then decide ((host - dev).toNat ≤ (b - dev).toNat ∧ (b - dev).toNat ≤ n)
  else decide ((b - host).toNat ≤ (dev - host).toNat)

/-- A window serves the doorbell of a ring that was recorded before its start. -/
def Vexone.scanRing (v : Vexone) (start : Nat) (m : Master) (r : Fin 10) : Vexone :=
  let x := v.ring m r
  match x.bell with
  | some b =>
    if x.bellAt < start then
      if bellValid (decide (r.val < 4)) b x.dev x.host (v.ringSize m.idx r) then
        v.modRing m r fun x => { x with bell := none, host := b }
      else (v.modRing m r fun x => { x with bell := none }).ringFault (if r.val < 4 then 0x0402 else 0x0403) m r
    else v
  | none => v

def Vexone.scan (v : Vexone) (start : Nat) : Vexone :=
  masters.foldl (fun v m => (List.finRange 10).foldl (fun v r => v.scanRing start m r) v) v

/-! ## Decode and admission (04 R91, R135, R136; 15 R522) -/

/-- The first check of 04 Table 4-8 that a descriptor fails. -/
def Vexone.decodeCheck (v : Vexone) (m : Master) (cl : Cls) (ws : List Word) : Option Nat :=
  let info := opInfo (descOpcode ws)
  let len := descBufLen ws
  let addr := descBufAddr ws
  if descReserved ws != 0 || 4096 < len || (if len = 0 then addr != 0 else addr == 0 || addr % 4 != 0) then some stBadDesc
  else match info with
    | none => some stBadOpcode
    | some r =>
      if !r.classes.contains cl then some stWrongClass
      else if !(v.isOwner m) && !(isQuery (descOpcode ws)) then some stNotOwner
      else if m = .m2 && len != 0 then some stNoBuffer
      else none

/-- Reads of 512 bytes that an APDU's buffer takes (15 R523). -/
def bufReads (ws : List Word) : Nat := if descOpcode ws = 0x1102 then ceilDiv (descBufLen ws) 512 else 0

/-- The tick count of the frame in which a CCLK time falls, this frame or the next (05 R165). -/
def Vexone.tickOf (v : Vexone) (t : Nat) : Nat := v.clk.ticks + bit (decide (v.clk.t0 + frameLen ≤ t))

/-- A descriptor whose decode ends now enters a place: admitted 8 CCLK later, or refused into the holding store. Its role check
is that of the edge at which the decode ends (03 R95). -/
def Vexone.admitDesc (v : Vexone) (m : Master) (cl : Cls) (pool : Pool) (ws : List Word) : Vexone :=
  match v.freePlace with
  | none => v
  | some p =>
    let bad := v.decodeCheck m cl ws
    let o : Op :=
      { place := p, m := m, cls := cl, pool := pool, words := ws, admAt := v.now + 8, elig := v.tickOf (v.now + 8),
        bufLeft := if bad.isSome then 0 else bufReads ws, bufAsked := 0, buf := [], hadCtx := false, seq := v.opSeq,
        phase := match bad with
          | some st => .complete { status := BitVec.ofNat 8 st, detail := 0, frame := v.clk.frame, offset := v.clk.edge }
          | none => .admitted
        readyAt := v.now, parked := false, orphan := false, result := [], wrote := 0 }
    { v with ops := v.ops ++ [o], opSeq := v.opSeq + 1, dcnt := if bad.isSome then v.dcnt else vcount v.dcnt 5 }

/-- Whether a request was issued before the ring's present enable, or its ring is halted or disabled: its data is
discarded (04 R133). -/
def Vexone.staleFetch (v : Vexone) (m : Master) (cl : Cls) (gen : Nat) : Bool :=
  !(v.ringOn m.idx (sqOf cl)) || (v.ring m (sqOf cl)).halted || (v.ring m (sqOf cl)).gen != gen

/-- A read of a ring's descriptors since its present enable. -/
def ReadReq.ofRing (r : ReadReq) (m : Master) (cl : Cls) (gen : Nat) : Bool :=
  match r.kind with
  | .descr m' cl' _ _ g => m' == m && cl' == cl && g == gen
  | _ => false

/-- One descriptor of a request taken: DEV_IDX moves over it, and its decode follows the one before (04 R133; 15 R522). -/
def Vexone.takeDesc (v : Vexone) (m : Master) (cl : Cls) (rid : Nat) (pool : Pool) (ws : List Word) : Vexone :=
  let t := max v.now (v.ring m (sqOf cl)).decEnd + 32
  (v.modRing m (sqOf cl) fun x =>
    { x with dev := x.dev + 1, decEnd := t, chain := x.chain ++ [{ rid := rid, pool := pool, words := ws, endAt := t }] }).leave t
    (.decode m cl)

/-- The whole descriptors received of the oldest request of a ring taken; one wholly taken is outstanding no more. -/
def Vexone.takeHead (v : Vexone) (r : ReadReq) : Nat → Vexone
  | 0 => v
  | k + 1 =>
    match r.kind with
    | .descr m cl (n + 1) (p :: ps) g =>
      if r.got.length < 16 then v
      else
        let r' : ReadReq := { r with kind := .descr m cl n ps g, got := r.got.drop 16 }
        let v := v.takeDesc m cl r.rid p (r.got.take 16)
        let v : Vexone :=
          { v with reads := if n = 0 then v.reads.filter fun x => x.rid != r.rid
                            else v.reads.map fun x => if x.rid = r.rid then r' else x }
        v.takeHead r' k
    | _ => v

/-- What has arrived is taken in ring order: of the oldest request outstanding, once every earlier one has been received and
decoded (04 R133). -/
def Vexone.takeRing (v : Vexone) (m : Master) (cl : Cls) : Vexone :=
  let x := v.ring m (sqOf cl)
  match v.reads.find? (fun r => r.ofRing m cl x.gen) with
  | some r => if x.chain.all (fun d => d.rid == r.rid) then v.takeHead r 8 else v
  | none => v

/-- The decode at the head of a ring's chain ends; with the last of a request's, the next request's may begin. -/
def Vexone.endDecode (v : Vexone) (m : Master) (cl : Cls) : Vexone :=
  match (v.ring m (sqOf cl)).chain with
  | d :: r =>
    if d.endAt ≤ v.now then
      ((v.modRing m (sqOf cl) fun x => { x with chain := r }).admitDesc m cl d.pool d.words).takeRing m cl
    else v
  | [] => v

/-- Descriptor data arrives: all of a request's, or the next part of it. -/
def Vexone.fetchData (v : Vexone) (rid : Nat) (ws : List Word) : Vexone :=
  match v.reads.find? (fun r => r.rid == rid) with
  | some r =>
    match r.kind with
    | .descr m cl n _ gen =>
      if v.staleFetch m cl gen then { v with reads := v.reads.filter fun x => x.rid != rid }
      else
        ({ v with reads := v.reads.map fun (x : ReadReq) =>
            if x.rid = rid then { x with got := (x.got ++ ws).take (16 * n) } else x } : Vexone).takeRing m cl
    | _ => v
  | none => v

/-- A failed descriptor fetch: the ring halts at the first descriptor not received, whose credit returns with those of the rest;
what has arrived of later requests is discarded (04 R133, R156). -/
def Vexone.fetchFail (v : Vexone) (rid : Nat) (m : Master) (cl : Cls) (gen status : Nat) : Vexone :=
  if v.staleFetch m cl gen then { v with reads := v.reads.filter fun x => x.rid != rid }
  else
    let v := match v.reads.find? (fun r => r.ofRing m cl gen) with
      | some r => if r.rid = rid then v.takeHead r 8 else v
      | none => v
    let v := { v with reads := v.reads.filter fun x =>
      x.rid != rid && !(x.ofRing m cl gen && (match x.kind with | .descr _ _ n _ _ => x.got.length == 16 * n | _ => false)) }
    let v := { v with reads := v.reads.map fun (x : ReadReq) => if x.ofRing m cl gen then { x with got := [] } else x }
    (v.modRing m (sqOf cl) fun x => { x with halted := true }).ringFault 0x0404 m (sqOf cl) status

/-! ## Buffers (15 R523, 04 R160) -/

/-- The operation whose buffer a read is for, where it still waits for it. -/
def Vexone.bufferOp (v : Vexone) (p : Place) (seq : Nat) : Option Op :=
  (v.opAt p).filter fun o => o.seq == seq && o.phase == .admitted && o.bufLeft != 0

/-- A failed buffer read: ST_BUF_FAULT, fault 0x0405, and the operation is not executed (04 R160). One that has completed in
the meantime stands as it is. -/
def Vexone.bufferFail (v : Vexone) (p : Place) (seq : Nat) : Vexone :=
  let v := { v with reads := v.reads.filter fun r => match r.kind with | .buffer q n _ _ => !(q == p && n == seq) | _ => true }
  match v.bufferOp p seq with
  | some o => (v.complete p stBufFault 0).latchF 0x0405 o.m.idx
  | none => v

/-! ## Windows (04 R131, R132) -/

/-- A window being served: the die, the requests left and issued, the CCLK time of its start, and the posted write that a
further record may share (master, ring, records in it). -/
structure Win where
  v : Vexone
  left : Nat
  used : Nat
  start : Nat
  open_ : Option (Nat × Nat × Nat)

/-- The CCLK time of the next request (15 R521). -/
def Win.next (w : Win) : Nat := w.start + 64 * (w.used + 1)

/-- One request spent. -/
def Win.spend (w : Win) : Win := { w with left := w.left - 1, used := w.used + 1, open_ := none }

/-- The shortest completion timeout of a port's Completion Timeout Value (04 R663; PCI Express Base 3.x ranges A and B). -/
def ctoLimit (v : BitVec 4) : Nat :=
  match v.toNat with
  | 1 => 10848
  | 2 => 216960
  | 5 => 3471360
  | 6 => 14102400
  | _ => 8678400

/-- A read request issued at a CCLK time. -/
def Vexone.issueRead (v : Vexone) (m : Master) (k : ReadKind) (addr len t : Nat) : Vexone :=
  let lim := match m.port with | some p => ctoLimit (v.portOf p).cto | none => 0
  ({ v with nextRid := v.nextRid + 1
            reads := v.reads ++ [{ rid := v.nextRid, m := m, kind := k, at_ := t, limit := lim, got := [] }] } : Vexone).put
    (.read m v.nextRid addr len)

/-- The phase bit of record i (04 R121). -/
def phaseBit (i : BitVec 16) (n : Nat) : Nat := if i.toNat / n % 2 = 0 then 1 else 0

/-- A record counts at its ring's vector (04 R149). -/
def Vexone.signal (v : Vexone) (m : Master) (r : Fin 10) (t : Nat) (irqNow : Bool) : Vexone :=
  match m.port with
  | some p =>
    let x := v.portOf p
    v.setPort p { x with msix := vmodN x.msix (v.ringVector m.idx r) fun q =>
      { q with records := q.records + 1, firstAt := if q.records = 0 then t else q.firstAt, irqNow := q.irqNow || irqNow } }
  | none => v

/-- Words appended to the last posted write. -/
def extendPost (ws : List Word) : List OutRec → List OutRec
  | [] => []
  | [.post m a old] => [.post m a (old ++ ws)]
  | x :: r => x :: extendPost ws r

/-- A record whose last word lacks its phase bit written to a device-produced ring: into the open posted write where it
lies next in the same ring and the write has room, else by a request of its own; none where no request is left. -/
def Win.record (w : Win) (m : Master) (r : Fin 10) (cap : Nat) (ws : List Word) (irqNow : Bool := false) : Option Win :=
  let v := w.v
  let n := v.ringSize m.idx r
  let i := (v.ring m r).dev
  let pos := i.toNat % n
  let ws := ws.mapIdx fun k x => if k + 1 = ws.length then x ||| BitVec.ofNat 32 (phaseBit i n <<< 31) else x
  let join := match w.open_ with
    | some (m', r', k) => m' == m.idx.val && r' == r.val && decide (k < cap) && pos != 0
    | none => false
  if join || 0 < w.left then
    let w := if join then w else w.spend
    let t := w.start + 64 * w.used
    let v := match m with
      | .m2 => v.modMst m fun (x : MasterState) =>
          if r.val = 8 then { x with evMem := x.evMem.filter (fun (c : Nat × List Word) => c.1 != pos) ++ [(pos, ws)] }
          else if r.val = 9 then { x with teMem := x.teMem.filter (fun (c : Nat × List Word) => c.1 != pos) ++ [(pos, ws)] }
          else x
      | _ => if join then { v with out := extendPost ws v.out }
             else v.put (.post m (v.ringBase m.idx r + 4 * ws.length * pos) ws)
    let v := (v.modRing m r fun x => { x with dev := x.dev + 1 }).signal m r t irqNow
    let k := match w.open_ with | some (_, _, k) => k | none => 0
    some { w with v := v, open_ := some (m.idx.val, r.val, if join then k + 1 else 1) }
  else none

/-! ### Fetches (04 R133, R135) -/

/-- General credits of the owner held by B operations. -/
def Vexone.bHeld (v : Vexone) : Nat := (v.held.filter fun x => x.2.1 == .b && x.2.2 == .ownerGen).length

/-- Credits of the observer pool held by a master. -/
def Vexone.obsHeld (v : Vexone) (m : Master) : Nat := (v.held.filter fun x => x.1 == m && x.2.2 == .obs).length

/-- The pools of the credits available to a master's class, in the order in which they are drawn (04 Table 4-7, 03 R91). -/
def Vexone.credits (v : Vexone) (m : Master) (cl : Cls) : List Pool :=
  let gen := 224 - v.poolHeld .ownerGen
  if v.isOwner m then
    match cl with
    | .u => List.replicate (16 - v.poolHeld .ownerU) .ownerU ++ List.replicate gen .ownerGen
    | .b => List.replicate (min gen (96 - v.bHeld)) .ownerGen
    | _ => List.replicate gen .ownerGen
  else List.replicate (min (16 - v.poolHeld .obs) (12 - v.obsHeld m)) .obs

/-- Whether a completion of a master is parked (04 R138). -/
def Vexone.parkedOf (v : Vexone) (m : Master) : Bool := v.ops.any fun o => o.m == m && o.parked && o.isComplete

/-- The words of an M2 submission mailbox. -/
def MasterState.subWords (x : MasterState) (cl : Cls) : List Word :=
  let box := x.subBox.toList.getD (clsNum cl) []
  (List.range 16).map fun k => (box.lookup k).getD 0

/-- A fetch from one ring: at most one request. -/
def Win.fetchRing (w : Win) (m : Master) (cl : Cls) : Win :=
  let v := w.v
  let x := v.ring m (sqOf cl)
  let size := v.ringSize m.idx (sqOf cl)
  let pend := (x.host - x.fetched).toNat
  let pools := (v.credits m cl).take (min (min pend 8) (min (256 - v.placesHeld) (size - x.fetched.toNat % size)))
  let n := pools.length
  if v.ringOn m.idx (sqOf cl) && !x.halted && decide (0 < n) && decide (0 < w.left) then
    let t := w.next
    let v := v.modRing m (sqOf cl) fun x => { x with fetched := x.fetched + BitVec.ofNat 16 n }
    let v := match m with
      | .m2 =>
        ({ v with nextRid := v.nextRid + 1
                  reads := v.reads ++ [{ rid := v.nextRid, m := m, kind := .descr m cl n pools x.gen, at_ := t, limit := 0
                                         got := (v.mst m).subWords cl }] } : Vexone).leave (t + 16) (.mailbox cl)
      | _ => v.issueRead m (.descr m cl n pools x.gen)
          (v.ringBase m.idx (sqOf cl) + 64 * (x.fetched.toNat % size)) (64 * n) t
    { w with v := v }.spend
  else w

/-- The buffer reads of one operation, as far as requests are left (15 R523). -/
def Win.bufferReads (w : Win) (p : Place) : Nat → Win
  | 0 => w
  | k + 1 =>
    match w.v.opAt p with
    | some o =>
      if o.bufAsked < bufReads o.words && 0 < w.left then
        let ofs := 512 * o.bufAsked
        let len := min 512 (o.bufLen - ofs)
        let v := w.v.issueRead o.m (.buffer p o.seq ofs len) (descBufAddr o.words + ofs) len w.next
        ({ w with v := v.modOp p fun o => { o with bufAsked := o.bufAsked + 1 } }.spend).bufferReads p k
      else w
    | none => w

/-- The fetch step of a class and master: buffer reads of operations admitted before the window, then descriptors
unless a parked completion stops them (04 R138). -/
def Win.fetch (w : Win) (cl : Cls) (m : Master) : Win :=
  let due := w.v.ops.filter fun o =>
    o.m == m && o.cls == cl && o.phase == .admitted && o.bufLeft != 0 && decide (o.admAt < w.start)
  let w := due.foldl (fun w o => w.bufferReads o.place 8) w
  if cl ≠ .u && w.v.parkedOf m then w else w.fetchRing m cl

/-- The load requests of a window (04 R134). -/
def Win.loadFetch (w : Win) : Nat → Win
  | 0 => w
  | k + 1 =>
    match w.v.img.load with
    | some ld =>
      if w.v.img.proof == .fetching && ld.asked < ld.len && 0 < ld.quotaLeft && 1 < w.left then
        let len := min 512 (ld.len - ld.asked)
        let v := w.v.issueRead ld.m (.image ld.asked len) (ld.addr + ld.asked) len w.next
        let asked := ld.asked + len
        let ld' : Load := { ld with asked := asked, quotaLeft := ld.quotaLeft - 512, issued := ld.issued + len }
        ({ w with v := { v with img := { v.img with load := some ld' } } }.spend).loadFetch k
      else w
    | none => w

/-! ### Completions (04 R124, R137, R160; 15 R527) -/

/-- A completion record without its phase bit. -/
def Vexone.cplWords (v : Vexone) (o : Op) (cl : Comp) : List Word :=
  [BitVec.ofNat 32 (pack [(descTag o.words, 16), (cl.status.toNat, 8), (clsNum o.cls, 6), (bit o.parked, 5)]),
   BitVec.ofNat 32 (pack [((v.ring o.m (sqOf o.cls)).dev.toNat, 16), (cl.detail.toNat, 0)]), cl.frame,
   BitVec.ofNat 32 cl.offset]

/-- Whether result writes can be issued on a master's port (04 R160). -/
def Vexone.portUsable (v : Vexone) (m : Master) : Bool :=
  match m.port with
  | some p => let x := v.portOf p; x.linkUp && x.bme && !x.flr && !x.perst
  | none => true

/-- Result writes of 256 bytes, as far as requests are left. -/
def Win.results (w : Win) (p : Place) : Nat → Win
  | 0 => w
  | k + 1 =>
    match w.v.opAt p with
    | some o =>
      if o.wrote < o.result.length && 0 < w.left then
        let part := (o.result.drop o.wrote).take 256
        let v := w.v.put (.post o.m (descBufAddr o.words + o.wrote) (toWords part))
        ({ w with v := v.modOp p fun o => { o with wrote := o.wrote + part.length } }.spend).results p k
      else w
    | none => w

/-- The completion of an operation left by a port reset at its turn: it parks as before a disabled ring, and is never written
(04 R155); a result write cannot be issued while the reset lasts (R160). -/
def Win.orphanTurn (w : Win) (o : Op) : Win :=
  let v := w.v
  let v := if !o.result.isEmpty && v.inPortReset o.m then (v.modOp o.place fun o => { o with result := [] }).latchF 0x0405 o.m.idx else v
  { w with v := if o.parked then v
      else { v.modOp o.place fun o => { o with parked := true } with dcnt := vcount v.dcnt 6 } }

/-- One completion at its turn: it parks without a free entry, else its result and its record are written and its
credit and place return. -/
def Win.completion (w : Win) (p : Place) : Win :=
  match w.v.opAt p with
  | some o =>
    match o.phase with
    | .complete cl =>
      let r := cqOf o.cls
      if o.orphan then w.orphanTurn o
      else if w.left = 0 && w.open_.isNone then w
      else if w.v.ringFree o.m r = 0 then
        if w.left = 0 || o.parked then w
        else { w with v := { w.v.modOp p fun o => { o with parked := true } with dcnt := vcount w.v.dcnt 6 } }
      else
        let lost := o.m != .m2 && o.wrote < o.result.length && !w.v.portUsable o.m
        let cl : Comp := if lost then { cl with status := BitVec.ofNat 8 stBufFault, detail := 0 } else cl
        let w : Win := if lost then
            { w with v := (w.v.modOp p fun o => { o with result := [], phase := .complete cl }).latchF 0x0405 o.m.idx }
          else if o.m = .m2 then w
          else w.results p 17
        match w.v.opAt p with
        | some o' =>
          if o'.wrote < o'.result.length && o.m != .m2 then w
          else
            let ws := w.v.cplWords o' cl
            match w.record o.m r 16 ws (descIrqNow o.words) with
            | some w =>
              let v := { w.v with ops := w.v.ops.filter fun x => x.place != p }
              let v := if o.m = .m2 then
                  let i := (v.ring o.m r).dev - 1
                  let rec_ := ws.mapIdx fun k x => if k = 3 then x ||| BitVec.ofNat 32 (phaseBit i 1 <<< 31) else x
                  v.modMst .m2 fun x =>
                    { x with cplShown := vmodN x.cplShown (clsNum o.cls) fun _ => rec_ ++ toWords (padTo 48 o'.result) }
                else v
              { w with v := v }
            | none => w
        | none => w
    | _ => w
  | none => w

/-- The completions of a master that entered the holding store before the window, oldest first. -/
def Win.completions (w : Win) (m : Master) : Win :=
  let due := w.v.ops.filter fun o => o.m == m && o.isComplete && decide (o.readyAt < w.start)
  (sortKey (·.readyAt) due).foldl (fun w o => w.completion o.place) { w with open_ := none }

/-! ### Events and telemetry (04 R125, R126, R145, R146) -/

/-- Queued before the window of this frame that starts at an edge. -/
def Vexone.before (v : Vexone) (edge : Nat) (frame : BitVec 32) (offset : Nat) : Bool :=
  !(frame == v.clk.frame && decide (edge ≤ offset))

def eventWords (e : Event) : List Word :=
  [BitVec.ofNat 32 (pack [(e.code, 16), (e.seq.toNat, 0)]), e.frame, BitVec.ofNat 32 e.offset] ++
    toWords (padTo 16 e.payload) ++ [0]

/-- The EV_OVERFLOW record. -/
def markerWords (k : Marker) : List Word :=
  [BitVec.ofNat 32 (pack [(0x0402, 16), (k.lastSeq.toNat, 0)]), k.frame, BitVec.ofNat 32 k.offset] ++
    toWords (payload [(2, k.dropped), (2, k.firstSeq.toNat), (2, k.lastSeq.toNat)]) ++ [0]

/-- The queued events of a master, its marker first. -/
def Win.events (w : Win) (m : Master) (edge : Nat) : Nat → Win
  | 0 => w
  | k + 1 =>
    if w.v.ringFree m 8 = 0 then w
    else
      let x := w.v.mst m
      match x.marker, x.events with
      | some mkr, _ =>
        if w.v.before edge mkr.frame mkr.offset then
          match w.record m 8 8 (markerWords mkr) with
          | some w => ({ w with v := w.v.modMst m fun x => { x with marker := none } } : Win).events m edge k
          | none => w
        else w
      | none, ev :: _ =>
        if w.v.before edge ev.frame ev.offset then
          match w.record m 8 8 (eventWords ev) with
          | some w => ({ w with v := w.v.modMst m fun x => { x with events := x.events.drop 1 } } : Win).events m edge k
          | none => w
        else w
      | none, [] => w

/-- The last word of a telemetry record without its phase bit (04 R126). DESIGN CHOICE: DROPPED, which has 16 bits, saturates at
65,535 (log entry 118); the frame-inexact flag that 01 Table 1-5 puts into every record stands at a place that no layout gives,
somewhere in the reserved bits (log entry 117). -/
def teleLast (dropped : Nat) (inexact : Bool) : Word :=
  BitVec.ofNat 32 (satTo 65535 dropped) ||| (if inexact then Config.inexactMark.zeroExtend 32 <<< 16 else 0)

/-- The undrained telemetry of a master. -/
def Win.telemetry (w : Win) (m : Master) : Nat → Win
  | 0 => w
  | k + 1 =>
    if w.v.ringFree m 9 = 0 then w
    else
      let x := w.v.mst m
      match x.tele with
      | t :: _ =>
        let ws := [BitVec.ofNat 32 (pack [(t.kind, 16), (x.teleSeq.toNat, 0)]), BitVec.ofNat 32 t.bench] ++
          toWords (padTo 52 t.payload) ++ [teleLast x.teleDropped t.inexact]
        match w.record m 9 4 ws with
        | some w => ({ w with v := w.v.modMst m fun x =>
            { x with tele := x.tele.drop 1, teleSeq := x.teleSeq + 1, teleDropped := 0 } } : Win).telemetry m k
        | none => w
      | [] => w

/-! ### MSI-X (04 R148, R149) -/

/-- Whether a vector's message is due at a CCLK time. -/
def Vexone.msixDue (v : Vexone) (m : Master) (k : Fin 16) (q : MsixVector) (t : Nat) : Bool :=
  let reg := v.force (moderAddr m.idx k)
  decide (0 < q.records) &&
    (q.irqNow || decide (fld reg 23 16 ≤ q.records) || decide (q.firstAt + slotLen * fld reg 7 0 ≤ t))

/-- A vector at the end of a window: a due message is sent, or sets the pending bit of a masked vector; a pending one of a
vector no longer masked is sent. -/
def Vexone.msixStep (v : Vexone) (m : Master) (p : Port) (t : Nat) (k : Fin 16) : Vexone :=
  let x := v.portOf p
  let q := x.msix[k]
  let due := v.msixDue m k q t
  let masked := q.masked || x.fmask
  let q' : MsixVector :=
    { q with records := if due then 0 else q.records, irqNow := if due then false else q.irqNow
             pending := (q.pending || due) && masked }
  let v := v.setPort p { x with msix := x.msix.set k q' }
  if (due || q.pending) && !masked then v.put (.msix p k) else v

def Vexone.msixAll (v : Vexone) (t : Nat) : Vexone :=
  [Port.a, Port.b].foldl (fun v p => (List.finRange 16).foldl (fun v k => v.msixStep p.master p t k) v) v

/-! ### The window -/

/-- A window in the order of 04 R132. -/
def Vexone.serveWindow (v : Vexone) (e : Entry) : Vexone :=
  let start := v.clk.t0 + e.start
  let urgent := e.param % 2 == 1
  let v := v.scan start
  let own := v.hal.owner
  let w : Win := { v := v, left := e.dur / 64 - 1, used := 0, start := start, open_ := none }
  let w := match own with
    | some m => if urgent then w.fetchRing m .u else w
    | none => w
  let w := w.loadFetch w.left
  let w := masters.foldl Win.completions w
  let w := masters.foldl (fun (w : Win) m => ({ w with open_ := none } : Win).events m e.start 65) w
  let w := masters.foldl (fun (w : Win) m => ({ w with open_ := none } : Win).telemetry m (w.v.mst m).tele.length) w
  let w := classes.foldl (fun w cl => masters.foldl (fun w m =>
    if cl = .u && urgent && own == some m then w else w.fetch cl m) w) w
  w.v.msixAll (start + 64 * (w.used + 1))

/-! ## Operations that no cleat took (05 R165) -/

/-- The context of an operation's handle is resident. -/
def Vexone.residentOp (v : Vexone) (o : Op) : Bool := v.cx.tab.any fun h => h.handle == o.handle && h.ctx.isSome

/-- At a tick: an operation that is not eligible starts its 64 frames anew (05 R165). -/
def Vexone.tickEligible (v : Vexone) : Vexone :=
  { v with ops := v.ops.map fun o =>
      if o.phase == .admitted && !(o.bufLeft == 0 && v.fenceClear o v.now) then { o with elig := v.clk.ticks } else o }

end Sys2Proof.Machine
end

