-- ==== Sys2Proof/Machine/Device.lean ====
section
/-! DEFINITION. Declared pairs in force (01 section 1.3), device control (05 Table 5-10), the clock (01 section 1.6) and
the frame follower (01 section 1.4). -/

namespace Sys2Proof.Machine

open Sys2Proof

/-! ## Declared pairs (01 Table 1-2) -/

/-- The halves in force of a pair. -/
def Vexone.pairInForce (v : Vexone) : PairId → Int × Int
  | .railCmd r => ((v.rail r).tgt, (v.rail r).slew)
  | .ot r => ((v.rail r).warn, (v.rail r).shut)
  | .segShort s => (v.segs[s].shTh, v.segs[s].shDl)
  | .segOpen s => (v.segs[s].opTh, v.segs[s].opDl)
  | .reef l => (v.lanes[l].ampCap, v.lanes[l].busCap)
  | .mbusOv => (v.mbus.thr, v.mbus.dly)
  | .fanRow c r => ((v.fans[c].rows[r]).temp, (v.fans[c].rows[r]).duty)
  | .ringGeo m r => (v.ringBase m.idx r, fld (v.force (ringAddr m.idx r + 0x08)) 3 0)
  | .msix p k => let w := v.force (moderAddr p.master.idx k); (fld w 23 16, fld w 7 0)
  | .frameRole => (v.fr.role, v.fr.ofs)

/-- A frame role taking effect: a device made a follower is acquiring (01 Table 1-4). -/
def Vexone.setRole (v : Vexone) (role : Nat) (ofs : Int) : Vexone :=
  let f : FrameRole := { FrameRole.reset with role := role, ofs := ofs, err := v.fr.err,
                                              st := if role = 2 then .acquiring else .none }
  ({ v with fr := if role = v.fr.role then { v.fr with ofs := ofs } else f } : Vexone).setForce 0x0020
    (BitVec.ofNat 32 (pack [(twos 8 ofs, 8), (role, 0)]))

/-- Both halves of a pair taking effect. -/
def Vexone.pairTake (v : Vexone) (i : PairId) (a b : Int) : Vexone :=
  match i with
  | .railCmd r => v.modRail r fun x => { x with tgt := a.toNat, slew := b.toNat }
  | .ot r => v.modRail r fun x => { x with warn := a.toNat, shut := b.toNat }
  | .segShort s => v.modSeg s fun x => { x with shTh := a.toNat, shDl := b.toNat }
  | .segOpen s => v.modSeg s fun x => { x with opTh := a.toNat, opDl := b.toNat }
  | .reef l => v.modLane l fun x => { x with ampCap := a.toNat, busCap := b.toNat }
  | .mbusOv => { v with mbus := { v.mbus with thr := a.toNat, dly := b.toNat } }
  | .fanRow c r => v.modFan c fun x => { x with rows := vmod x.rows r fun q => { q with temp := a, duty := b.toNat } }
  | .ringGeo m r =>
    let base := a.toNat
    ((v.setForce (ringAddr m.idx r) (BitVec.ofNat 32 base)).setForce (ringAddr m.idx r + 4)
      (BitVec.ofNat 32 (base / 2 ^ 32))).setForce (ringAddr m.idx r + 8) (BitVec.ofNat 32 b.toNat)
  | .msix p k => v.setForce (moderAddr p.master.idx k) (BitVec.ofNat 32 (pack [(a.toNat, 16), (b.toNat, 0)]))
  | .frameRole => v.setRole a.toNat b

/-- Whether a pair may latch: ring geometry only while the ring is disabled in force (04 R117). -/
def Vexone.pairMay (v : Vexone) : PairId → Bool
  | .ringGeo m r => !(v.ringOn m.idx r)
  | _ => true

/-- Whether a pending pair takes effect at this tick (01 R29, R31). -/
def Vexone.pairReady (v : Vexone) (p : PairPend) : Bool :=
  v.pairMay p.id && ((p.h1.isSome && p.h2.isSome) || (p.commit && (p.h1.isSome || p.h2.isSome)))

/-- Complete pairs latch at a tick; a half written alone stays pending. -/
def Vexone.tickPairs (v : Vexone) : Vexone :=
  let ready := v.pairs.filter v.pairReady
  let rest := (v.pairs.filter fun p => !v.pairReady p && (p.h1.isSome || p.h2.isSome)).map fun (p : PairPend) =>
    { p with commit := false }
  ready.foldl (fun v p =>
    let (a, b) := v.pairInForce p.id
    v.pairTake p.id (p.h1.getD a) (p.h2.getD b)) { v with pairs := rest }

/-- The pair that COMMIT_PAIR names (05 Table 5-11). -/
def pairNamed (pair inst : Nat) : Option PairId :=
  match pair with
  | 1 => if inst = 0 then some (.railCmd .fb) else none
  | 2 => if inst = 0 then some (.railCmd .ax) else none
  | 3 => if inst ≤ 1 then some (.ot (railOfNum inst)) else none
  | 4 => if inst ≤ 15 then some (.segShort (Fin.ofNat 16 inst)) else none
  | 5 => if inst ≤ 15 then some (.segOpen (Fin.ofNat 16 inst)) else none
  | 6 => if inst ≤ 3 then some (.reef (Fin.ofNat 4 inst)) else none
  | 7 => if inst = 0 then some .mbusOv else none
  | 8 => if inst ≤ 31 then some (.fanRow (Fin.ofNat 4 (inst / 8)) (Fin.ofNat 8 (inst % 8))) else none
  | _ => none

/-! ## Faults cleared (16 R559, Table 16-6) -/

/-- The codes that a CODE names, ascending; none where it names no code of Table 16-6. -/
def namedCodes (c : Nat) : List Nat :=
  if c % 256 = 0xFF then
    (if 1 ≤ c / 256 ∧ c / 256 ≤ 12 then ((List.range 32).map (c / 256 * 256 + ·)).filter fun x => (faultClass x).isSome else [])
  else if (faultClass c).isSome then [c] else []

/-- A reading that qualified 0x0A01 still stands at its recovery level or above (16 Table 16-6). -/
def Reservoir.ovHolds (r : Reservoir) : Bool :=
  (List.range 6).any (fun k => r.ovRead.getLsbD k && decide (2850 ≤ r.cell k)) ||
  (r.ovRead.getLsbD 6 && decide (17100 ≤ r.stack)) ||
  (List.range 7).any fun k => decide (0 < k ∧ k < 6) && r.ovPair.getLsbD k && decide (5700 ≤ r.cell (k - 1) + r.cell k)

/-- The condition under which Table 16-6 refuses to clear a code. -/
def Vexone.clearRefused (v : Vexone) (c : Nat) : Bool :=
  if c = 0x0101 ∨ c = 0x0102 ∨ c = 0x0108 then v.clk.backup
  else if c = 0x0104 then v.fr.st == .unlocked
  else if c = 0x0804 then
    [RailId.fb, RailId.ax].any fun r => v.latched c r.num && hotAt (v.guardTemps r) (v.rail r).warn
  else if c = 0x0807 then decide (v.mbus.vbus < 700)
  else if c = 0x0905 then decide (v.vOff ≤ v.mbus.vbus)
  else if c = 0x0A01 then v.res.ovHolds
  else if c = 0x0A05 then v.res.cellSh &&& v.res.shortNow != 0
  else if c ∈ [0x0B01, 0x0B02, 0x0B03, 0x0B04] then v.mains.st != 0
  else if c = 0x0C04 then decide (960 ≤ v.th.dieT)
  else false

/-- The named codes that are latched and refused (log entry 27), and what the tick is to clear. -/
def Vexone.clearPlan (v : Vexone) (c : Nat) : List Nat × List (Nat × BitVec 16) :=
  let cs := (namedCodes c).filter v.anyLatched
  (cs.filter v.clearRefused, (cs.filter fun x => !v.clearRefused x).map fun x => (x, (v.fault x).mask))

/-- What the units keep of a code that its clear ends: a qualified reading may qualify anew. A segment stays in fault-off until
a later UNFURL takes effect (07 R249). -/
def Vexone.afterClear (v : Vexone) (c : Nat) (m : BitVec 16) : Vexone :=
  if c = 0x0A01 then { v with res := { v.res with ovRead := 0, ovPair := 0 } }
  else if c = 0x0A05 then { v with res := { v.res with cellSh := 0 } }
  else if c = 0x0C02 then
    { v with fans := v.fans.mapFinIdx fun k f _ => if m.getLsbD k then { f with slowFault := false } else f }
  else v

/-- Named instances cleared at the tick. -/
def Vexone.tickFaultClear (v : Vexone) (named : List (Nat × BitVec 16)) : Vexone :=
  named.foldl (fun v x => (v.clearFault x.1 x.2).afterClear x.1 x.2) v

/-! ## The clock (01 section 1.6) -/

/-- The fault code of a cause (01 R42). -/
def refCode : RefCause → Nat
  | .noEdge => 0x0101
  | .freq => 0x0102
  | .pll => 0x0108

/-- EV_CLOCK (04 Table 4-11). -/
def Vexone.clockPayload (v : Vexone) (code kind : Nat) : List Byte :=
  payload [(2, code), (1, kind), (1, bit v.clk.backup), (4, v.clk.frame.toNat)]

/-- The cause that declares a loss of several met at one edge: the lowest code (01 R42). -/
def refFirst (noEdge freq : Bool) : RefCause := if noEdge then .noEdge else if freq then .freq else .pll

/-- CCLK switches to the backup (01 Table 1-5). -/
def Vexone.switchClock (v : Vexone) : Vexone := { v with clk := { v.clk with backup := true } }

/-- The code of a reference loss latches, and EV_CLOCK is recorded (01 Table 1-5). -/
def Vexone.referenceFault (v : Vexone) (code : Nat) : Vexone := (v.latchRaw code 1).emit 0x0102 (v.clockPayload code 0)

/-- A CLOCK_RESTORE under way ends (01 R45). -/
def Vexone.endRestore (v : Vexone) (status detail : Nat) : Vexone :=
  match v.clk.restore with
  | some p => ({ v with clk := { v.clk with restore := none } } : Vexone).complete p status detail
  | none => v

/-! ## The frame follower (01 section 1.4) -/

/-- FSTATE (17 Table 17-5). -/
def FState.code : FState → Nat
  | .none => 0
  | .acquiring => 1
  | .locked => 2
  | .holdover => 3
  | .unlocked => 4

/-- EV_FSYNC (04 Table 4-11). -/
def Vexone.fsyncPayload (v : Vexone) (prev : FState) (kind code : Nat) : List Byte :=
  payload [(1, v.fr.st.code), (1, prev.code), (1, kind), (1, twos 8 v.fr.err), (4, v.clk.frame.toNat), (2, code)]

/-- A fault of the follower that leaves it in its state: its first latching records EV_FSYNC (16 R665). -/
def Vexone.fsyncFault (v : Vexone) (code : Nat) : Vexone :=
  v.latchEv code 1 0x0101 (v.fsyncPayload v.fr.st 3 code)

/-- A fault that moves the follower: every such move records its EV_FSYNC (01 Table 1-4). -/
def Vexone.fsyncMove (v : Vexone) (code : Nat) (prev : FState) : Vexone :=
  (v.latchRaw code 1).emit 0x0101 (v.fsyncPayload prev 0 code)

def Vexone.setFState (v : Vexone) (st : FState) : Vexone := { v with fr := { v.fr with st := st } }

/-- The FSYNC_I window of an edge, as 1 + the tick count of the tick that it surrounds. -/
def Vexone.windowAt (v : Vexone) (edge : Nat) : Nat := v.clk.ticks + (if edge < frameLen / 2 then 1 else 2)

/-- The error of a rising edge of FSYNC_I: its distance from the expected tick, which is the nearest own tick plus FS_OFS (01
R35). -/
def Vexone.fsyncErr (v : Vexone) (edge : Nat) : Int :=
  (if edge < frameLen / 2 then (edge : Int) else (edge : Int) - frameLen) - v.fr.ofs

/-- A marker's width: 0 ordinary, 1 bench, 2 epoch (01 R35). -/
def markerOf (width : Nat) : Option Nat :=
  if 56 ≤ width ∧ width ≤ 72 then some 0
  else if 120 ≤ width ∧ width ≤ 136 then some 1
  else if 248 ≤ width ∧ width ≤ 264 then some 2
  else none

/-- The pulse of a window missing or invalid (01 Table 1-4): a locked follower goes to holdover at the second in a row. The
frames of holdover count from the expected tick of the first. -/
def Vexone.missPulse (v : Vexone) (win : Nat) (count : Nat) : Vexone :=
  let first := if v.fr.st = .locked ∧ count = 1 then win - 1 else v.fr.firstMiss
  let v : Vexone := { v with fr := { v.fr with missWin := win, missing := count, good := 0, firstMiss := first } }
  if v.fr.st = .locked ∧ 2 ≤ count then
    (({ v with fr := { v.fr with hold := v.clk.ticks - first } } : Vexone).setFState .holdover).fsyncMove 0x0103 .locked
  else v

/-- The frame-number bits that a marker aligns: at once when its tick is past, else at the tick it marks. -/
def Vexone.alignTo (v : Vexone) (edge : Nat) (low12 : Bool) : Vexone :=
  let mask : BitVec 32 := if low12 then 0xFFFFF000 else 0xFFFFFFC0
  if edge < frameLen / 2 then { v with clk := { v.clk with frame := v.clk.frame &&& mask } }
  else { v with fr := { v.fr with alignLow6 := true, alignLow12 := v.fr.alignLow12 || low12 } }

/-- A marker received while locked: the first since lock aligns the bench, every epoch marker the epoch (01 Table 1-4). -/
def Vexone.marker (v : Vexone) (edge kind : Nat) : Vexone :=
  if kind = 0 then v
  else
    let v := if kind = 2 then v.alignTo edge true else if v.fr.aligned then v else v.alignTo edge false
    let v := if v.fr.aligned then v
      else
        let v : Vexone := { v with fr := { v.fr with aligned := true } }
        v.emit 0x0101 (v.fsyncPayload .locked 1 0)
    if kind = 2 && !v.fr.epoch then
      let v : Vexone := { v with fr := { v.fr with epoch := true } }
      v.emit 0x0101 (v.fsyncPayload .locked 2 0)
    else v

/-- A valid pulse: its error, the phase jump of acquisition, the frequency tracking and the lock (01 R36, Table 1-4). -/
def Vexone.validPulse (v : Vexone) (edge win : Nat) (err : Int) (kind : Nat) : Vexone :=
  let was := v.fr.st
  let f := v.fr
  let first := was == .acquiring && !f.seen
  let near := decide (-2 ≤ err ∧ err ≤ 2)
  let pull := clampI (-200) 200 (Config.pull f.pull err)
  let v : Vexone := { v with fr := { f with
    err := err, validWin := win, missBefore := f.missing, missing := 0, seen := true
    jump := if first then err else f.jump
    pull := if first || was == .unlocked then f.pull else pull
    good := if first then 0 else if near then f.good + 1 else 0 } }
  let v := if first || was == .unlocked then v
    else if pull = 200 ∨ pull = -200 then v.fsyncFault 0x0105 else v
  match was with
  | .locked => v.marker edge kind
  | .acquiring | .holdover =>
    if 16 ≤ v.fr.good then
      let v : Vexone := { v with fr := { v.fr with st := .locked, aligned := false, epoch := false, hold := 0 } }
      v.emit 0x0101 (v.fsyncPayload was 0 0)
    else v
  | _ => v

/-- FRAME_RESYNC at its tick. -/
def Vexone.tickResync (v : Vexone) : Vexone :=
  if v.fr.st = .unlocked then
    { v with fr := { v.fr with st := .acquiring, seen := false, good := 0, missing := 0, aligned := false, epoch := false } }
  else v

/-! ### The follower at a tick -/

/-- The width of the FSYNC_O pulse of a frame (01 R34, R35). -/
def pulseWidth (role : Nat) (f : BitVec 32) : Nat :=
  if role = 0 then 0 else if f &&& 0xFFF = 0 then 256 else if f &&& 0x3F = 0 then 128 else 64

/-- The frame number of the frame that a tick opens (01 R22, Table 1-4). -/
def Vexone.nextFrame (v : Vexone) : BitVec 32 :=
  let f := v.clk.frame + 1
  if v.fr.alignLow12 then f &&& 0xFFFFF000 else if v.fr.alignLow6 then f &&& 0xFFFFFFC0 else f

/-- What the follower does at a tick: its jump is taken, holdover counts, and a follower that lost its reference is
unlocked (01 Table 1-4, R51). -/
def Vexone.tickFollower (v : Vexone) : Vexone :=
  let v : Vexone := { v with fr := { v.fr with jump := 0, alignLow6 := false, alignLow12 := false
                                               hold := if v.fr.st = .holdover then min 64 (v.clk.ticks - v.fr.firstMiss) else 0
                                               pulse := pulseWidth v.fr.role v.clk.frame } }
  if v.onBackup && (v.fr.st == .acquiring || v.fr.st == .locked || v.fr.st == .holdover) then
    let prev := v.fr.st
    let v := ({ v with fr := { v.fr with hold := 0 } } : Vexone).setFState .unlocked
    v.emit 0x0101 (v.fsyncPayload prev 0 0)
  else v

/-! ## Writes of its registers -/

/-- FRM_CTL_WRITE (01 R34; 17 R578, R584). -/
def Vexone.writeFrmCtl (v : Vexone) (m : Master) (be : BitVec 4) (w : Word) : Vexone :=
  if !v.isOwner m then v.ignoreWrites 1
  else
    let old := v.written 0x0020
    let new := mergeBytes old w be &&& 0x0000FF03
    if fld new 1 0 = 3 then v
    else if new = old then v
    else if v.unfurled != 0 || v.unfurlPending != 0 then v.latchF 0x0107 0
    else
      ((v.setWritten 0x0020 new).markFresh 0x0020).pairWrite .frameRole
        (if be.getLsbD 0 then some (fld new 1 0 : Nat) else none)
        (if be.getLsbD 1 then some (signed 8 (fld new 15 8)) else none)

end Sys2Proof.Machine
end

