-- ==== Sys2Proof/Machine/Context.lean ====
section
/-! DEFINITION. The Context Store and the spoil area (spec 06): the handle table, the 128-byte context, moves, the eviction
order, creations, hints, pins and the context operations of 05 Table 5-8b. -/

namespace Sys2Proof.Machine

open Sys2Proof

/-! ## The handle table (06 section 6.2) -/

/-- The number of slots that are not free: resident or reserved. -/
def Cx.used (x : Cx) : Nat := (x.tab.filter fun e => e.slot.isSome).length

def Cx.free (x : Cx) : Nat := 384 - x.used

def Cx.residents (x : Cx) : Nat := (x.tab.filter HEntry.resident).length

def Cx.trackedN (x : Cx) : Nat := (x.tab.filter (·.tracked)).length

def Cx.pins (x : Cx) : Nat := (x.tab.filter (·.pin)).length

def Cx.spoilHeld (x : Cx) : Nat := (x.tab.filter fun e => e.tracked && !e.resident).length

/-- The lowest free slot. -/
def Cx.freeSlot (x : Cx) : Option Nat := (List.range 384).find? fun n => x.tab.all fun e => e.slot != some n

/-! ## The context record (06 Table 6-1, 08 Tables 8-1, 8-2, 07 Table 7-11) -/

/-- The 126 bytes of a context before CHK, with a KEY field. -/
def Ctx.bytes (c : Ctx) (key : List Byte) (hint : Bool) : List Byte :=
  let f := fun (n x : Nat) => le n x
  f 2 c.handle ++ f 2 c.gen ++ f 1 c.loc ++ f 1 c.pocket ++ f 1 (c.flags.toNat % 4 + 4 * bit hint) ++ f 1 0 ++
  f 4 c.lastFrame ++ f 4 c.firstFrame ++ padTo 16 c.identity ++
  c.vec.toList.flatMap (f 1) ++ f 1 c.tune ++ f 1 c.ratio ++ f 1 c.vtgt ++ f 1 (c.trials + 128 * bit c.converged) ++
  f 2 c.cBest ++ f 2 c.cBase ++ f 2 c.cLast ++ f 1 c.lowCnt ++ f 1 0 ++
  f 4 c.grantTot ++ f 4 c.delivTot ++ f 2 c.grantLast ++ f 2 c.cap ++ f 2 c.demand ++ f 1 (c.seq + 16 * c.lastSeq) ++
  f 1 (c.tag + 16 * bit c.tagged + 32 * bit c.outstanding) ++ f 4 c.passId ++ f 2 c.nonce ++ f 1 c.acnt ++ f 1 c.pol ++
  f 1 c.isoState ++ f 1 (c.rate + 16 * c.fwi) ++ f 1 (c.fsci + 16 * c.sfgi) ++ f 1 c.block.toNat ++ f 1 c.wtxm ++
  f 1 c.attempt ++ f 2 c.opTag ++ f 4 c.bindFrame ++ f 4 c.deadline ++ f 2 c.sent ++ f 2 c.rcvd ++ f 4 0 ++
  f 1 c.retryTot ++ f 1 c.timeouts ++ f 1 c.late ++ f 1 c.rxErr ++ f 1 c.missedRep ++ f 1 c.fieldLoss ++ f 2 c.wtxCnt ++
  padTo 16 key ++ f 1 c.keyId ++ f 5 0

/-- A context read from a record, with its KEY in clear. -/
def Ctx.ofBytes (b : List Byte) (key : List Byte) : Ctx :=
  let u := fun (o n : Nat) => leAt b o n
  { handle := u 0 2, gen := u 2 2, loc := u 4 1, pocket := u 5 1, flags := BitVec.ofNat 3 (u 6 1), lastFrame := u 8 4,
    firstFrame := u 0x0C 4, identity := (b.drop 0x10).take 16, vec := #v[u 0x20 1, u 0x21 1, u 0x22 1, u 0x23 1],
    tune := u 0x24 1, ratio := u 0x25 1, vtgt := u 0x26 1, trials := u 0x27 1 % 16, converged := decide (128 ≤ u 0x27 1),
    cBest := u 0x28 2, cBase := u 0x2A 2, cLast := u 0x2C 2, lowCnt := u 0x2E 1, grantTot := u 0x30 4,
    delivTot := u 0x34 4, grantLast := u 0x38 2, cap := u 0x3A 2, demand := u 0x3C 2, seq := u 0x3E 1 % 16,
    lastSeq := u 0x3E 1 / 16, tag := u 0x3F 1 % 16, tagged := decide (u 0x3F 1 / 16 % 2 = 1),
    outstanding := decide (u 0x3F 1 / 32 % 2 = 1), passId := u 0x40 4, nonce := u 0x44 2, acnt := u 0x46 1,
    pol := u 0x47 1 % 4, isoState := u 0x48 1, rate := u 0x49 1 % 4, fwi := u 0x49 1 / 16, fsci := u 0x4A 1 % 16,
    sfgi := u 0x4A 1 / 16, block := BitVec.ofNat 3 (u 0x4B 1), wtxm := u 0x4C 1, attempt := u 0x4D 1, opTag := u 0x4E 2,
    bindFrame := u 0x50 4, deadline := u 0x54 4, sent := u 0x58 2, rcvd := u 0x5A 2, retryTot := u 0x60 1,
    timeouts := u 0x61 1, late := u 0x62 1, rxErr := u 0x63 1, missedRep := u 0x64 1, fieldLoss := u 0x65 1,
    wtxCnt := u 0x66 2, key := key, keyId := u 0x78 1 }

/-- The wrapping key in force (06 R203). -/
def Vexone.wrapKey (v : Vexone) : List Nat :=
  (List.range 16).map fun i => ((Config.wrapKey v.cx.wrap).toNat >>> (8 * i)) % 256

/-- A directive key as a spoil record holds it: zero where no key is present (06 R203). -/
def Vexone.wrapped (v : Vexone) (c : Ctx) : List Byte :=
  if c.flags.getLsbD 1 then (aesEnc v.wrapKey ((padTo 16 c.key).map (·.toNat))).map (BitVec.ofNat 8 ·) else []

/-- The key of a record in clear. -/
def Vexone.unwrapped (v : Vexone) (b : List Byte) : List Byte :=
  if leAt b 6 1 / 2 % 2 = 1 then (aesDec v.wrapKey (((b.drop 0x68).take 16).map (·.toNat))).map (BitVec.ofNat 8 ·)
  else List.replicate 16 0

/-- ISO_STATE of a context, with its FLAGS bit 0 (07 Table 7-11, 06 Table 6-1). -/
def Ctx.setIso (c : Ctx) (n : Nat) : Ctx :=
  { c with isoState := n, flags := if n = 2 then c.flags ||| 1 else c.flags &&& 6 }

/-- The hint-protected flag stands until its frame (06 R210). -/
def HEntry.hinted (e : HEntry) (tick : Nat) : Bool := decide (tick < e.hintTo)

/-- The 128 bytes of a spoil record (06 R202). -/
def Vexone.record (v : Vexone) (e : HEntry) (c : Ctx) : List Byte :=
  let b := c.bytes (v.wrapped c) (e.hinted v.clk.ticks)
  b ++ le 2 (crc16 b)

/-! ## Events -/

/-- EV_CONTEXT (04 Table 4-11). -/
def cxPayload (code h n : Nat) : List Byte := payload [(2, code), (2, h), (2, n)]

/-- A store fault with EV_CONTEXT. -/
def Vexone.cxFault (v : Vexone) (code : Nat) (h : Nat := 0xFFFF) : Vexone := v.latchEv code 1 0x0502 (cxPayload code h 0)

/-! ## Eviction (06 R211, R213) -/

/-- Bound in this frame, in the next, or released in this frame (06 R211, R224; 02 R85). -/
def Vexone.boundNow (v : Vexone) (h : BitVec 12) : Bool :=
  v.sch.bind.any (·.handle == h) || v.sch.nbind.any (·.handle == h) || v.sch.pauses.contains h

/-- A resident context that may not be evicted or spilled (06 R211). -/
def Vexone.protected (v : Vexone) (e : HEntry) : Bool := v.boundNow e.handle || e.pin || e.busy

/-- The operations whose TARGET is a handle (05 Tables 5-4, 5-8b, 5-12). -/
def Op.namesHandle (o : Op) : Bool :=
  [0x1101, 0x1102, 0x1103, 0x1105, 0x1701, 0x1702, 0x1703, 0x1704, 0x1705, 0x1706, 0x1707, 0x1B04, 0x1B05].contains o.opcode

/-- An admitted operation names a handle. -/
def Vexone.hasOp (v : Vexone) (h : BitVec 12) : Bool := v.ops.any fun o => o.handle == h && !o.isComplete && o.namesHandle

/-- The eviction class of a candidate: 1, 2 or 3 (06 Table 6-3). -/
def Vexone.evictClass (v : Vexone) (e : HEntry) (c : Ctx) : Nat :=
  if 256 < (v.clk.frame - BitVec.ofNat 32 c.lastFrame).toNat then 1
  else if !v.hasOp e.handle && !c.flags.getLsbD 0 && !e.hinted v.clk.ticks then 2
  else 3

/-- The candidates in the order of Table 6-3: class, oldest LAST_FRAME, lower handle. -/
def Vexone.candidates (v : Vexone) (maxClass : Nat) : List HEntry :=
  let cs := v.cx.tab.filterMap fun e =>
    match e.ctx with
    | some c => if v.protected e then none else some (e, v.evictClass e c, (v.clk.frame - BitVec.ofNat 32 c.lastFrame).toNat)
    | none => none
  let cs := cs.filter fun x => decide (x.2.1 ≤ maxClass)
  (sortKey (fun x => x.2.1 * 2 ^ 33 + (2 ^ 32 - x.2.2)) cs).map (·.1)

/-! ## Freeing and filling slots -/

/-- The tag of a handle freed on its lane, or on its segment in a rack (08 R272). -/
def Vexone.freeTag (v : Vexone) (h : BitVec 12) : Vexone :=
  let f := fun (t : Tag) => if t.handle = some h then { handle := none, freeAt := v.clk.ticks + 64 } else t
  { v with lanes := v.lanes.map fun (l : Lane) => { l with tags := l.tags.map f }
           segs := v.segs.map fun (s : Seg) => { s with tags := s.tags.map f } }

/-- An angle of 64 steps read as -32 to 31. -/
def wrap6 (i : Int) : Int := signed 6 (twos 6 i)

/-- A record that starts from a vector (08 R277); the pass counts as committed to the factory values (09 R327). -/
def LoopRec.start (h : BitVec 12) (vec : Vector Nat 4) : LoopRec :=
  let dP := wrap6 ((vec[2] : Int) - vec[0])
  let dD := (vec[1] : Int) - vec[3]
  { handle := h, dir := none, queue := [], offer := none, beacons := 0, noTag := false, mute := false, quietTo := 0,
    keeps := 0, noRep := 0, got := false, missed := false, missRun := 0, repAt := none, pcdFrom := 0, away := none, last := none,
    ichg := 20, ichgCom := 20, vchg := 4100, vchgCom := 4100, rep := none, fromCarrier := true, p0 := twos 6 ((vec[0] : Int) + dP / 2), cenP := dP, cenD := dD, dP := dP, dD := dD,
    trackCnt := 0, trackDir := false, restartAt := 0, bGrant := 0, bDeliv := 0, bServed := 0, bGood := 0, bMissed := 0,
    bDone := 0, bLost := 0, heldRun := 0 }

/-- The context of a handle leaves the store: its tag is freed, its directives end, and what the device keeps beside it waits for a
fill (08 R272, R305) and for the bench record (08 R300). -/
def Vexone.dropLoop (v : Vexone) (h : BitVec 12) : Vexone :=
  let c := v.ctxOf h
  (v.freeTag h).modLoop h fun l =>
    { l with dir := none, queue := [], offer := none, beacons := 0, keeps := 0, noRep := 0, repAt := none
             away := some v.clk.ticks, last := c }

/-- A new context of a handle starts anew but for the counts of the bench. -/
def LoopRec.anew (l : LoopRec) : LoopRec :=
  { LoopRec.start l.handle (Vector.replicate 4 0) with
    bGrant := l.bGrant, bDeliv := l.bDeliv, bServed := l.bServed, bGood := l.bGood, bMissed := l.bMissed, bDone := l.bDone
    bLost := l.bLost }

/-- A clean context freed without a move. -/
def Vexone.freeClean (v : Vexone) (h : BitVec 12) : Vexone :=
  ((v.dropLoop h).modH h fun e => { e with ctx := none, slot := none, spillTick := v.clk.ticks,
                                            loc := (e.ctx.map (·.loc)).getD 0, pocket := (e.ctx.map (·.pocket)).getD 0,
                                            first := (e.ctx.map (·.firstFrame)).getD 0 }).modCx fun x =>
    { x with cleanFreed := x.cleanFreed + 1 }

/-- A spill at an edge: GEN counts, the record is posted and the slot freed (06 R204, R205); without a spoil area none. -/
def Vexone.spill (v : Vexone) (h : BitVec 12) : Vexone :=
  let e := v.cx.get h
  match e.ctx, v.cx.spoil with
  | some c, some (base, m) =>
    let gen := e.gen + 1
    let c := { c with gen := gen.toNat, tagged := false, outstanding := false }
    let v := v.put (.post m (base.toNat + 128 * h.toNat) (toWords (v.record e c)))
    (v.dropLoop h).modH h fun e => { e with ctx := none, slot := none, gen := gen, loc := c.loc, pocket := c.pocket,
                                            first := c.firstFrame, spillTick := v.clk.ticks, clean := false }
  | _, _ => v

/-- A slot reserved for a fill that has not issued (06 R208). -/
def Vexone.reserve (v : Vexone) (h : BitVec 12) : Vexone :=
  match v.cx.freeSlot with
  | some n => (v.modH h fun e => { e with slot := some n }).modCx fun x => { x with reserve := x.reserve ++ [h] }
  | none => v

/-- A fill issued at a CCLK time into a reserved or a free slot. -/
def Vexone.issueFill (v : Vexone) (h : BitVec 12) (op : Option Place) (t : Nat) : Vexone :=
  match v.cx.spoil, (v.cx.get h).slot.or v.cx.freeSlot with
  | some (base, m), some n =>
    let v := (v.modH h fun e => { e with slot := some n, busy := true }).modCx fun x =>
      { x with reserve := x.reserve.filter (· != h) }
    v.issueRead m (.fill h op) (base.toNat + 128 * h.toNat) 128 t
  | _, _ => v

/-- A clean candidate, if there is one: the first in the order of Table 6-3. -/
def Vexone.cleanCandidate (v : Vexone) : Option (BitVec 12) := ((v.candidates 3).find? (·.clean)).map (·.handle)

/-! ## Moves of a CX_WINDOW (06 R205 to R208, R216, R223) -/

/-- A device fill issued. -/
def Vexone.deviceFill (v : Vexone) (h : BitVec 12) (t : Nat) : Vexone :=
  (v.issueFill h none t).modCx fun x => { x with fills := x.fills + 1 }

/-- A device spill. -/
def Vexone.deviceSpill (v : Vexone) (h : BitVec 12) : Vexone :=
  (v.spill h).modCx fun x => { x with spills := x.spills + 1 }

/-- A tracked handle that a fill could make resident. -/
def HEntry.wantsFill (e : HEntry) : Bool := e.tracked && !e.resident && !e.busy

/-- A fill of a queued handle by a device move: into its reserved slot, a free one, a clean candidate's; else the move spills
the first candidate and reserves its slot. Whether the fill has been issued is told as well (06 R208, Table 6-4). -/
def Vexone.fillMove (v : Vexone) (h : BitVec 12) (t : Nat) : Vexone × Bool :=
  if (v.cx.get h).slot.isSome || 0 < v.cx.free then (v.deviceFill h t, true)
  else match v.cleanCandidate with
    | some c => ((v.freeClean c).deviceFill h t, true)
    | none =>
      match v.candidates 3 with
      | e :: _ => ((v.deviceSpill e.handle).reserve h, false)
      | [] => (v, false)

/-- Waiting creations exceed the free slots. -/
def Cx.roomWanted (x : Cx) : Bool := decide (x.free < x.create.length)

/-- A candidate's slot is freed: a clean one's at once, without the move; a dirty one's by a spill. Whether the move is spent is
told as well (06 R213). -/
def Vexone.freeSlotOf (v : Vexone) (e : HEntry) : Vexone × Bool :=
  if e.clean then (v.freeClean e.handle, false) else (v.deviceSpill e.handle, true)

/-- A hint whose fill has been issued, or whose handle is resident, leaves its queue; one whose handle is no longer tracked is
forgotten. -/
def Vexone.tidyQueues (v : Vexone) : Vexone :=
  v.modCx fun x =>
    { x with demand := x.demand.filter fun (d : BitVec 12 × Bool) => (x.get d.1).wantsFill
             hints := (x.hints.filter fun (d : Hint) => (x.get d.handle).tracked).map fun (d : Hint) =>
               { d with out := d.out || !(x.get d.handle).wantsFill }
             wantSpill := x.wantSpill.filter fun h => (v.candidates 3).any fun e => e.handle == h }

/-- The first work of Table 6-2 that exists, at a CCLK time: a fill for which a move has reserved a slot (06 R208), then the
orders 1 to 4. Whether the move is spent, or there is no work for it, is told as well. -/
def Vexone.moveWork (v : Vexone) (t : Nat) : Vexone × Bool :=
  let fills := v.sch.run != .egress
  let hint := (v.cx.hints.filter fun (d : Hint) => !d.out).head?
  match (if fills then v.cx.reserve.head? else none), (if fills then v.cx.demand.head? else none) with
  | some h, _ => (v.deviceFill h t, true)
  | none, some d => ((v.fillMove d.1 t).1, true)
  | none, none =>
    match v.cx.wantSpill.head? with
    | some h =>
      let (v, spent) := v.freeSlotOf (v.cx.get h)
      (v.modCx fun x => { x with wantSpill := x.wantSpill.filter (· != h) }, spent)
    | none =>
      if v.cx.roomWanted then
        match (v.candidates 3).head? with
        | some e => v.freeSlotOf e
        | none => (v, true)
      else
        match (if fills then hint else none) with
        | some d => ((v.fillMove d.handle t).1, true)
        | none =>
          if v.cx.free < 8 then
            match (v.candidates 2).head? with
            | some e => v.freeSlotOf e
            | none => (v, true)
          else (v, true)

/-- Work until the move is spent; n bounds the clean contexts freed without it. -/
def Vexone.moveLoop (t : Nat) : Nat → Vexone → Vexone
  | 0, v => v
  | n + 1, v =>
    let (v, spent) := v.tidyQueues.moveWork t
    if spent then v else Vexone.moveLoop t n v

/-- One move at its start edge (06 R207): approach answers that meet a full store are counted and dropped first, unless the
egress template runs, under which they stay queued (06 R209, R223). -/
def Vexone.move (v : Vexone) : Vexone :=
  if v.cx.halted || v.cx.spoil.isNone then v
  else
    let v := v.tidyQueues
    let v := if v.cx.free = 0 && v.sch.run != .egress then
        let keep := v.cx.demand.filter fun (d : BitVec 12 × Bool) => !d.2 || (v.cx.get d.1).slot.isSome
        v.modCx fun x => { x with demand := keep, dropped := x.dropped + (x.demand.length - keep.length) }
      else v
    (Vexone.moveLoop v.now 400 v).tidyQueues

/-! ## Fills that return (06 R204, R218, R222; 15 R519) -/

/-- The CX_FILLs of a handle that wait for its fill. -/
def Vexone.fillWaiters (v : Vexone) (h : BitVec 12) : List Op :=
  v.ops.filter fun o => o.opcode == 0x1701 && o.handle == h && o.phase == .running

/-- They complete, 32 CCLK after the data. -/
def Vexone.endFills (v : Vexone) (h : BitVec 12) (f : Op → Nat × Nat) : Vexone :=
  (v.fillWaiters h).foldl (fun v o =>
    let (fr, ofs) := v.stampAt (v.now + 32)
    v.completeAt o.place (f o).1 (f o).2 fr ofs (v.now + 33)) v

/-- The slot of a fill that failed returns. -/
def Vexone.dropFill (v : Vexone) (h : BitVec 12) : Vexone := v.modH h fun e => { e with slot := none, busy := false }

/-- A fill's read fails: fault 0x0505 and EV_CONTEXT. -/
def Vexone.fillFail (v : Vexone) (rid : Nat) (h : BitVec 12) : Vexone :=
  let v := ({ v with reads := v.reads.filter fun r => r.rid != rid } : Vexone).dropFill h
  let v := (v.latchRaw 0x0505 1).emit 0x0502 (cxPayload 0x0505 h.toNat 0)
  v.endFills h fun _ => (stBufFault, 0)

/-! ## Context operations (05 Table 5-8b) -/

/-- The handle is not tracked (05 R180). -/
def Vexone.untracked (v : Vexone) (o : Op) : Bool := !(v.cx.get o.handle).tracked

/-- A spill or retirement meets a protection, a reserved slot or a fill in flight (06 R211, R222). -/
def Vexone.pinnedFor (v : Vexone) (o : Op) : Bool :=
  let e := v.cx.get o.handle
  v.protected e || (e.slot.isSome && !e.resident)

/-- The entries of the hint queue. -/
def Cx.hintQueue (x : Cx) : List Hint := x.hints.filter fun (q : Hint) => !q.out

/-- A hint joins its queue, ordered by due frame: a full queue loses its latest entry. A handle that is in the demand queue is
not queued twice, and its flag waits for the fill (06 R209, R210). -/
def Vexone.addHint (v : Vexone) (n : Hint) : Vexone :=
  v.modCx fun x =>
    let old := x.hints.find? fun (q : Hint) => q.handle == n.handle
    let n := match old with | some q => { n with due := min n.due q.due, counted := q.counted } | none => n
    let n := { n with out := x.demand.any (·.1 == n.handle) }
    let rest := x.hints.filter fun (q : Hint) => q.handle != n.handle
    let all := insertBy (fun (a b : Hint) => a.due < b.due || (a.due == b.due && a.handle != n.handle)) n rest
    if 64 < (all.filter fun (q : Hint) => !q.out).length then
      match (all.filter fun (q : Hint) => !q.out).getLast? with
      | some q => { x with hints := all.filter (fun (r : Hint) => r.handle != q.handle), hintDrop := x.hintDrop + 1 }
      | none => x
    else { x with hints := all }

/-! ## Context settings at the tick -/

/-- CX_PIN: a context that has left the store meanwhile is not pinned. -/
def Vexone.tickPin (v : Vexone) (h : BitVec 12) : Vexone :=
  v.modH h fun e => if e.resident && v.cx.pins < 256 then { e with pin := true } else e

def Vexone.tickUnpin (v : Vexone) (h : BitVec 12) : Vexone := v.modH h fun e => { e with pin := false }

def Vexone.tickKey (v : Vexone) (h : BitVec 12) (key : List Byte) (id : Byte) : Vexone :=
  v.modCtx h fun c => { c with key := key, keyId := id.toNat, flags := c.flags ||| 2 }

/-- A handle stops being tracked and its context is discarded; a fill in flight is dropped when it returns. A handle bound meanwhile
to the frame that opens is kept: the binding wins, and the operation fails with ST_PINNED (05 R193; 06 R211). -/
def Vexone.tickRetire (v : Vexone) (d : Due) (h : BitVec 12) : Vexone :=
  if v.sch.nbind.any (·.handle == h) then v.cancelOp d stPinned
  else (v.dropLoop h).modH h fun e =>
    { e with tracked := false, ctx := none, slot := if e.busy then e.slot else none, pin := false, freeAt := v.clk.ticks + 64 }

/-- The spoil area abandoned at the first tick after a takeover or a port reset (06 R216). -/
def Vexone.tickAbandon (v : Vexone) : Vexone :=
  if v.cx.abandon then
    let gone := v.cx.tab.filter fun e => e.tracked && !e.resident && !e.busy
    let v := gone.foldl (fun v e => v.modH e.handle fun e =>
      { e with tracked := false, slot := none, freeAt := v.clk.ticks + 64 }) v
    let v := v.modCx fun x => { x with abandon := false, spoil := none, reserve := [], demand := [], hints := [] }
    (v.latchRaw 0x0506 1).emit 0x0502 (cxPayload 0x0506 0xFFFF gone.length)
  else v

/-! ## Sightings and demands (06 R209; 07 Table 7-4) -/

/-- EV_CX_DEMAND (04 Table 4-11): outcome 0 queued, 1 an approach answer dropped, 2 a full queue, 3 already queued. -/
def Vexone.demandEvent (v : Vexone) (h : BitVec 12) (loc pocket outcome : Nat) : Vexone :=
  v.emit 0x0501 (payload [(2, h.toNat), (1, loc), (1, pocket),
    (4, satTo 0xFFFFFFFF (v.clk.ticks - (v.cx.get h).spillTick)), (1, outcome)])

/-- A tracked handle that is not resident answers in the field. -/
def Vexone.demandOf (v : Vexone) (h : BitVec 12) (loc pocket : Nat) : Vexone :=
  let e := v.cx.get h
  let approach := !v.isRack && loc / 4 % 2 == 0
  if v.cx.demand.any (·.1 == h) || v.cx.hintQueue.any (·.handle == h) || e.busy || e.slot.isSome then v.demandEvent h loc pocket 3
  else if approach && v.cx.free ≤ 8 then
    (v.demandEvent h loc pocket 1).modCx fun x => { x with dropped := x.dropped + 1 }
  else if 32 ≤ v.cx.demand.length then
    (v.demandEvent h loc pocket 2).modCx fun x => { x with dropped := x.dropped + 1 }
  else (v.demandEvent h loc pocket 0).modCx fun x => { x with demand := x.demand ++ [(h, approach)] }

/-! ## Creation at edge 200,000 (06 R198, R206, R214) -/

/-- The lowest handle that is not tracked and was not during the 64 frames before. -/
def Vexone.newHandle (v : Vexone) : Option (BitVec 12) :=
  ((List.range 4096).find? fun n =>
    let e := v.cx.get (BitVec.ofNat 12 n)
    !e.tracked && !e.busy && decide (e.freeAt ≤ v.clk.ticks)).map (BitVec.ofNat 12 ·)

/-- A context as created: STEER, LEDGER, ISO, COUNTERS and KEY at their reset values, 0 (06 Table 6-1; log entry 111). -/
def Vexone.newCtx (v : Vexone) (h : BitVec 12) (s : Sighting) : Ctx :=
  { handle := h.toNat, gen := (v.cx.get h).gen.toNat, loc := s.loc, pocket := s.pocket, flags := 0,
    lastFrame := v.clk.frame.toNat, firstFrame := v.clk.frame.toNat, identity := List.replicate 16 0,
    vec := Vector.replicate 4 0, tune := 0, ratio := 0, vtgt := 0, trials := 0, converged := false, cBest := 0,
    cBase := 0, cLast := 0, lowCnt := 0, grantTot := 0, delivTot := 0, grantLast := 0, cap := 0, demand := 0,
    seq := 0, lastSeq := 0, tag := 0, tagged := false, outstanding := false, passId := 0, nonce := 0, acnt := 0, pol := 0,
    isoState := 0, rate := 0, fwi := 0, fsci := 0, sfgi := 0, block := 0, wtxm := 0, attempt := 0, opTag := 0,
    bindFrame := 0, deadline := 0, sent := 0, rcvd := 0, retryTot := 0, timeouts := 0, late := 0, rxErr := 0,
    missedRep := 0, fieldLoss := 0, wtxCnt := 0, key := List.replicate 16 0, keyId := 0 }

/-- The lane of a location: its lane in a gate image, the lane of its segment in a rack (05 R187). -/
def Vexone.laneOfLoc (v : Vexone) (loc : Nat) : LaneId := if v.isRack then Fin.ofNat 4 (loc % 16 / 4) else Fin.ofNat 4 (loc % 4)

/-- A context created for a sighting, where a handle and a slot allow it. -/
def Vexone.tryCreate (v : Vexone) (s : Sighting) : Option Vexone :=
  match v.newHandle with
  | none => none
  | some h =>
    let v? := if 0 < v.cx.free then some v else v.cleanCandidate.map v.freeClean
    v?.bind fun v => v.cx.freeSlot.map fun n =>
      let c := v.newCtx h s
      let v := v.modH h fun e => { e with tracked := true, slot := some n, ctx := some c, clean := false, pin := false,
                                          hintTo := 0, busy := false }
      let v := v.modLane (v.laneOfLoc s.loc) fun l => { l with cnt := vcount l.cnt 1 }
      v.modCx fun x => { x with created := x.created + 1
                                loops := x.loops.map fun (l : LoopRec) => if l.handle = h then l.anew else l }

/-- A sighting that finds no slot: deferred into the creation queue, or dropped from a full one (06 Table 6-4). -/
def Vexone.deferSighting (v : Vexone) (s : Sighting) : Vexone :=
  let v := if v.cx.trackedN = 4096 then v.cxFault 0x0503 else v
  if v.cx.create.length < 32 then
    let v := if v.cx.deferred = 0 then v.cxFault 0x0501 else v
    v.modCx fun x => { x with create := x.create ++ [s], deferred := x.deferred + 1 }
  else (v.cxFault 0x0502).modCx fun x => { x with dropped := x.dropped + 1 }

/-- The creations of edge 200,000: the sightings that wait, then those of this frame, in order. -/
def Vexone.createAll (v : Vexone) : Vexone :=
  let waiting := v.cx.create
  let fresh := v.cx.sight.filter fun (s : Sighting) => s.known.isNone
  let v := v.modCx fun x => { x with create := [], sight := [] }
  let v := waiting.foldl (fun v s =>
    match v.tryCreate s with
    | some v => v
    | none => v.modCx fun x => { x with create := x.create ++ [s] }) v
  fresh.foldl (fun v s =>
    match v.tryCreate s with
    | some v => v
    | none => v.deferSighting s) v

/-- Hints whose handle is not resident at edge 200,000 of their due frame count as late once; those still queued stay queued (06
R210). -/
def Vexone.judgeHints (v : Vexone) : Vexone :=
  let v := v.tidyQueues
  let late := v.cx.hints.filter fun (h : Hint) => !h.counted && decide (h.due ≤ v.clk.ticks) && !(v.cx.get h.handle).resident
  v.modCx fun x =>
    { x with hintLate := x.hintLate + late.length
             hints := (x.hints.filter fun (h : Hint) => !(h.out && decide (h.due ≤ v.clk.ticks) && !(x.get h.handle).busy)).map
               fun (h : Hint) => if h.due ≤ v.clk.ticks then { h with counted := true } else h }

/-- Flags of the store at edge 200,000. -/
def Vexone.noteFree (v : Vexone) : Vexone := v.modCx fun x => { x with freeMin := min x.freeMin x.free }

/-! ## The store summary (06 Table 6-5) -/

def Cx.summary (x : Cx) : TeleRec :=
  let s := fun n => satTo 65535 n
  { kind := 0x0501, bench := 0, inexact := false
    payload := padTo 52 ([x.residents, x.freeMin, x.spoilHeld, x.trackedN, x.pins, s x.created, s x.deferred, s x.dropped,
      s x.fills, s x.spills, s x.cleanFreed, s x.hintLate, s x.hintDrop, s x.checkFail].flatMap (le 2)) }

/-- The bench counts start anew; FREE_MIN starts above what edge 200,000 can find. -/
def Cx.newBench (x : Cx) : Cx :=
  { x with freeMin := 384, created := 0, deferred := 0, dropped := 0, fills := 0, spills := 0, cleanFreed := 0,
           hintLate := 0, hintDrop := 0, checkFail := 0 }

end Sys2Proof.Machine
end

