-- ==== Sys2Proof/Machine/Energy.lean ====
section
/-! DEFINITION. The energy loop on the controller's side (spec 08; 18 R610 to R614): tags, bindings, steering, carrier
vectors, grants, directives and reports. -/

namespace Sys2Proof.Machine

open Sys2Proof

/-! ## Places (06 Table 6-1, LOC) -/

/-- The segments that a LOC names: its pair in a gate image, its segment in a rack. -/
def Vexone.locSegs (v : Vexone) (loc : Nat) : BitVec 16 :=
  if v.isRack then oneHot 16 (loc % 16) else BitVec.ofNat 16 (3 <<< (4 * (loc % 4) + 2 * (loc / 4 % 2)))

/-- A LOC on a gate pair. -/
def Vexone.atGate (v : Vexone) (loc : Nat) : Bool := !v.isRack && loc / 4 % 2 == 1

/-- The LOC of a segment. -/
def Vexone.locOf (v : Vexone) (s : SegId) : Nat := if v.isRack then s.val else s.val / 4 + 4 * (s.val % 4 / 2)

/-- The tags of a LOC: of its segment in a rack, of its lane in a gate image (08 R272). -/
def Vexone.tagsAt (v : Vexone) (loc : Nat) : Vector Tag 16 :=
  if v.isRack then v.segs[Fin.ofNat 16 loc].tags else v.lanes[Fin.ofNat 4 loc].tags

/-- A tag of a LOC given to a handle. -/
def Vexone.holdTag (v : Vexone) (loc t : Nat) (h : BitVec 12) : Vexone :=
  let f := fun (ts : Vector Tag 16) => vmodN ts t fun x => { x with handle := some h }
  if v.isRack then v.modSeg (Fin.ofNat 16 loc) fun s => { s with tags := f s.tags }
  else v.modLane (Fin.ofNat 4 loc) fun l => { l with tags := f l.tags }

/-- The lowest tag that is free and was not held during the last 64 frames (08 R272). -/
def Vexone.freeTagAt (v : Vexone) (loc : Nat) : Option Nat :=
  let ts := v.tagsAt loc
  (List.range 16).find? fun t =>
    match ts[t]? with
    | some x => x.handle.isNone && decide (x.freeAt ≤ v.clk.ticks)
    | none => false

/-! ## Events (04 Table 4-11) -/

/-- EV_PASS: kind 0 tag offered, 1 assigned, 2 shortage, 3 released, 4 hello collision, 5 pair moved. -/
def Vexone.passEvent (v : Vexone) (c : Ctx) (tag : Option Nat) (kind : Nat) : Vexone :=
  v.emit 0x0701 (payload [(2, c.handle), (1, tag.getD 0xFF), (1, c.loc), (1, kind), (3, 0), (4, c.passId)])

/-- The EV_STEER payload: kind 0 converged, 1 restarted, 2 ended below 5 uW. -/
def steerPayload (c : Ctx) (kind trials : Nat) : List Byte :=
  payload ([(2, c.handle), (1, if c.tagged then c.tag else 0xFF), (1, c.loc), (1, kind), (1, trials)] ++
    c.vec.toList.map (fun x => (1, x)) ++ [(2, c.cBest)])

/-- A fault of the lane of a pass with EV_FAULT (16 Table 16-6). -/
def Vexone.laneFault (v : Vexone) (code loc : Nat) : Vexone := v.latchF code (v.laneOfLoc loc).val

/-! ## The record beside a context -/

def Vexone.loopOf (v : Vexone) (h : BitVec 12) : Option LoopRec := v.cx.loops.find? fun l => l.handle == h

/-- The carrier vectors in force on the pair of a LOC (08 R277). -/
def Vexone.carriersAt (v : Vexone) (loc : Nat) : Vector Nat 4 :=
  let ss := segsOf (v.locSegs loc)
  let a := v.segs[ss.getD 0 0]
  let b := v.segs[ss.getD 1 (ss.getD 0 0)]
  #v[a.cp, a.cs, b.cp, b.cs]

/-- The start vector of a search, with what depends on it. -/
def LoopRec.from (l : LoopRec) (vec : Vector Nat 4) : LoopRec :=
  let n := LoopRec.start l.handle vec
  { l with p0 := n.p0, cenP := n.cenP, cenD := n.cenD, dP := n.dP, dD := n.dD }

/-- A bound handle has its record; until its first trial is judged its search starts from the carrier vectors in force (08 R277). -/
def Vexone.ensureLoop (v : Vexone) (h : BitVec 12) : Vexone :=
  match v.loopOf h, v.ctxOf h with
  | none, some c => v.modCx fun x => { x with loops := x.loops ++ [LoopRec.start h (v.carriersAt c.loc)] }
  | some l, some c => if l.fromCarrier then v.modLoop h fun l => l.from (v.carriersAt c.loc) else v
  | _, _ => v

/-- The base measurement of a search that starts: the coupled power over the pair's CARRIER runs in the frame before (08 R276,
R277); without such a run a free value. -/
def Vexone.baseOf (v : Vexone) (c : Ctx) : Nat :=
  let ms := (segsOf (v.locSegs c.loc)).map fun s => v.segs[s].meter
  if ms.all (·.lastT = 0) then (Config.noBase (BitVec.ofNat 12 c.handle) v.clk.ticks).toNat
  else satTo 65535 ((ms.map fun (m : Meter) => ((m.lastP : Int) - m.loss m.lastX) / (m.lastT : Int)).sum).toNat

/-! ## Steering (08 section 8.3) -/

/-- The steering vector of a phase difference and an amplitude difference about a common phase, under a cap (08 R277). -/
def steerVector (p0 cap : Nat) (dP dD : Int) : Vector Nat 4 :=
  let pa := twos 6 ((p0 : Int) - dP / 2)
  #v[pa, ((cap : Int) + min 0 dD).toNat, twos 6 (pa + dP), ((cap : Int) - max 0 dD).toNat]

/-- The candidate of trial t, counted from 0. -/
def LoopRec.trial (l : LoopRec) (t : Nat) : Int × Int :=
  let sign : Int := if t % 2 = 0 then 1 else -1
  if t < 8 then (wrap6 (l.cenP + sign * [16, 8, 4, 2].getD (t / 2) 0), l.dD)
  else (l.dP, clampI (-16) 16 (l.cenD + sign * [8, 4].getD ((t - 8) / 2) 0))

/-- A tracking trial is due: every fourth served frame (08 R278). -/
def LoopRec.tracks (l : LoopRec) : Bool := l.trackCnt % 4 == 3

/-- What the next served frame holds: a trial of the search, a tracking trial or the best vector. -/
def LoopRec.now (l : LoopRec) (c : Ctx) : Int × Int :=
  if c.converged then (if l.tracks then (wrap6 (l.dP + if l.trackDir then -1 else 1), l.dD) else (l.dP, l.dD))
  else if c.trials < 12 then l.trial c.trials else (l.dP, l.dD)

/-- The vector that a pass is served with: in a rack its segment's carrier vector at the lane's cap (18 R612). -/
def Vexone.vectorFor (v : Vexone) (c : Ctx) (l : LoopRec) : Vector Nat 4 :=
  let cap := v.lanes[v.laneOfLoc c.loc].cap
  if v.isRack then
    let s := v.segs[Fin.ofNat 16 c.loc]
    #v[s.cp, cap, s.cp, cap]
  else
    let x := l.now c
    steerVector l.p0 cap x.1 x.2

/-- A search starts again from the present vector (08 R278). -/
def Vexone.restartSearch (v : Vexone) (h : BitVec 12) : Vexone :=
  let v := v.modCtx h fun c => { c with trials := 0, converged := false, lowCnt := 0 }
  let v := v.modLoop h fun l => { l with cenP := l.dP, cenD := l.dD, trackCnt := 0, trackDir := false, restartAt := 0 }
  match v.ctxOf h with
  | some c => v.emit 0x0702 (steerPayload c 1 0)
  | none => v

/-- The end of a search of 12 served frames (08 R277, R278). -/
def Vexone.endSearch (v : Vexone) (h : BitVec 12) : Vexone :=
  match v.ctxOf h with
  | none => v
  | some c =>
    if c.cBest < 5 then
      let v := v.modLoop h fun l => { l with restartAt := v.clk.ticks + 64 }
      v.latchEv 0x0701 (oneHot 16 (v.laneOfLoc c.loc).val) 0x0702 (steerPayload c 2 12)
    else
      let v := v.modCtx h fun c => { c with converged := true, lowCnt := 0 }
      let v := v.modLoop h fun l => { l with trackCnt := 0, trackDir := false }
      v.emit 0x0702 (steerPayload { c with converged := true } 0 12)

/-- A served frame of the search: a candidate that raises the coupled power is kept; the first is held against the base
measurement (08 R277). -/
def Vexone.judgeTrial (v : Vexone) (h : BitVec 12) (c : Ctx) (l : LoopRec) : Vexone :=
  let base := if c.trials = 0 then v.baseOf c else c.cBase
  let best := if c.trials = 0 then base else c.cBest
  let (x, d) := l.trial c.trials
  let better := decide (best < c.cLast)
  let l' : LoopRec := if better then { l with dP := x, dD := d } else l
  let l' : LoopRec := if c.trials % 2 = 1 then { l' with cenP := l'.dP, cenD := l'.dD } else l'
  let cap := v.lanes[v.laneOfLoc c.loc].cap
  let v := (v.modLoop h fun _ => { l' with fromCarrier := false }).modCtx h fun c =>
    { c with trials := c.trials + 1, cBase := base, cBest := if better then c.cLast else best, vec := steerVector l'.p0 cap l'.dP l'.dD }
  if c.trials + 1 = 12 then v.endSearch h else v

/-- A served frame after convergence: tracking, and the 70 percent rule (08 R278). -/
def Vexone.judgeTrack (v : Vexone) (h : BitVec 12) (c : Ctx) (l : LoopRec) : Vexone :=
  let better := l.tracks && decide (c.cBest < c.cLast)
  let x := l.now c
  let low := if 10 * c.cLast < 7 * c.cBest then c.lowCnt + 1 else 0
  let l' : LoopRec := { l with trackCnt := l.trackCnt + 1, trackDir := if l.tracks then !l.trackDir else l.trackDir
                               dP := if better then x.1 else l.dP }
  let cap := v.lanes[v.laneOfLoc c.loc].cap
  let v := (v.modLoop h fun _ => l').modCtx h fun c =>
    { c with lowCnt := low, cBest := if better then c.cLast else c.cBest, vec := steerVector l'.p0 cap l'.dP l'.dD }
  if 4 ≤ low then v.restartSearch h else v

/-- The P cleats of a binding that it has held to their end, the one in progress left out (08 R277). -/
def Vexone.heldCleats (v : Vexone) (b : Binding) : Nat :=
  let i := if b.cur = 2 then b.second else b.first
  b.served - bit (b.cur != 0 && (v.entry i).any fun e => decide (v.clk.edge ≤ e.last))

/-- The measurement of a served frame judged once, where it holds the candidate that is still due (08 R277, R278; 18 R612). -/
def Vexone.judgeServed (v : Vexone) (b : Binding) : Vexone :=
  if b.judged || v.heldCleats b = 0 then v
  else
    let v : Vexone := { v with sch := { v.sch with bind := v.sch.bind.map fun y =>
      if y.handle = b.handle then { y with judged := true } else y } }
    match v.ctxOf b.handle, v.loopOf b.handle with
    | some c, some l =>
      if v.isRack then v.modCtx b.handle fun c => { c with converged := true, trials := 0 }
      else if l.now c ≠ b.cand then v
      else if c.converged then v.judgeTrack b.handle c l
      else if c.trials < 12 then v.judgeTrial b.handle c l
      else v
    | _, _ => v

def Vexone.judgeAll (v : Vexone) : Vexone := v.sch.bind.foldl (fun v b => v.judgeServed b) v

/-- Searches that ended below 5 uW restart after 64 frames. -/
def Vexone.judgeRestarts (v : Vexone) : Vexone :=
  v.cx.loops.foldl (fun v l =>
    match v.ctxOf l.handle with
    | some c => if l.restartAt ≠ 0 ∧ l.restartAt ≤ v.clk.ticks ∧ !c.converged then v.restartSearch l.handle else v
    | none => v) v

/-! ## The move to the gate pair (08 R275) -/

/-- The run of served frames whose report a handle has missed, with this frame: one in which it sends a good report, or answers a
fragment and misses none, ends the run; one in which no report is asked for leaves it (08 R275; log entry 5). -/
def LoopRec.missesBy (l : LoopRec) (b : Binding) : Nat :=
  if b.served = 0 then l.missRun
  else if l.got then 0
  else if l.missed || (b.asked && !b.answered) then l.missRun + 1
  else if b.asked then 0
  else l.missRun

/-- The LOC of a handle that missed its reports on the approach pair moves to the gate pair on which a pass was sighted;
that sighting creates no context, and the search restarts there. -/
def Vexone.moveToGate (v : Vexone) (b : Binding) : Vexone :=
  match v.ctxOf b.handle, v.loopOf b.handle with
  | some c, some l =>
    let gate := c.loc % 4 + 4
    let miss := l.missesBy b
    match v.cx.sight.find? (fun s => s.loc == gate && (s.known.isNone || s.known == some b.handle)) with
    | some s =>
      if v.isRack || v.atGate c.loc || miss < 4 then v
      else
        let v := v.modCx fun x => { x with sight := x.sight.filter (· != s) }
        let v := v.modCtx b.handle fun c => { c with loc := gate, vec := v.carriersAt gate }
        let v := v.modLoop b.handle fun l =>
          { l.from (v.carriersAt gate) with missRun := 0, got := true, fromCarrier := true }
        let v := v.restartSearch b.handle
        v.passEvent { c with loc := gate } (if c.tagged then some c.tag else none) 5
    | none => v
  | _, _ => v

/-! ## Bindings for the next frame (08 R275; 18 R611) -/

/-- The partner pairs of P cleats of a template, by the start of their earlier cleat (02 IV-19). -/
def pairsOf (es : List Entry) : List (Nat × Nat × Entry × Entry) :=
  let ix := (es.zip (List.range es.length)).filter fun x => x.1.kind == 1 && x.1.cls == 2
  let ps := ix.filterMap fun x =>
    if x.1.slot < x.1.partner then
      (ix.find? fun y => y.1.slot == x.1.partner && y.1.tracks == x.1.tracks).map fun y => (x.2, y.2, x.1, y.1)
    else none
  sortKey (fun (p : Nat × Nat × Entry × Entry) => p.2.2.1.start) ps

/-- A conveyor is declared (18 R615). -/
def Vexone.conveyor (v : Vexone) : Bool := v.isRack && (v.decl.any fun d => d.lins.getLsbD 0)

def Vexone.pockets (v : Vexone) : Nat := (v.decl.map Decl.pockets).getD 0

/-- A pocket is clear (18 R618). -/
def Vexone.pocketClear (v : Vexone) (p : Nat) : Bool :=
  !v.conveyor ||
    (v.rack.certain &&
      !(p % v.pockets == v.rack.k || p % v.pockets == (v.rack.k + 1) % v.pockets ||
        (p + 1) % v.pockets == v.rack.k % v.pockets))

/-- The pocket latched on a segment at an edge of a frame that runs some entries, from what is latched before; none where
its selection is skipped (18 R607, R618). -/
def Vexone.pocketBy (v : Vexone) (s : SegId) (es : List Entry) (q frm upto : Nat) (before : Option Nat) : Option Nat :=
  es.foldl (fun a e =>
    if e.kind = 0 ∧ e.code = 0x0105 ∧ e.tracks.getLsbD s.val ∧ frm ≤ e.start ∧ e.start < upto ∧ v.segs[s].live then
      let p := (e.param + q) % v.pockets
      if v.pocketClear p then some p else none
    else a) before

/-- Q in the next frame (18 R606). -/
def Vexone.nextQ (v : Vexone) : Nat :=
  match v.active with
  | some im => if (v.clk.frame.toNat + 1) % im.seq.length = 0 then (v.rack.q + 1) % v.pockets else v.rack.q
  | none => 0

/-- The pocket that both cleats of a pair find latched; none where they differ or a selection is skipped. -/
def Vexone.pairPocket (v : Vexone) (s : SegId) (next : List Entry) (a b : Entry) : Option Nat :=
  let x := v.segs[s]
  let now := v.pocketBy s (v.entriesOf v.sch.run) v.rack.q (v.clk.edge + 1) frameLen (if x.skipped then none else some (v.pocketOf s))
  let p := v.pocketBy s next v.nextQ 0 a.start now
  let q := v.pocketBy s next v.nextQ 0 b.start now
  if p = q then p else none

/-- A session runs for a handle (05 R172). -/
def Vexone.inSession (v : Vexone) (h : BitVec 12) : Bool := v.sess.any fun x => x.handle == h && x.phase != .over

/-- The session operation of a handle that binds at this edge: the earliest admitted of those ready, while none runs (05 R172;
15 R525). -/
def Vexone.waitingOp (v : Vexone) (h : BitVec 12) : Option Op :=
  if v.inSession h then none
  else (sortKey (fun (o : Op) => o.seq) (v.ops.filter fun o => o.cls == .p && o.handle == h && v.ready o v.clk.edge)).head?

/-- A session operation runs for a handle, or one waits that only its binding keeps from beginning (05 R172). -/
def Vexone.hasSession (v : Vexone) (h : BitVec 12) : Bool := v.inSession h || (v.waitingOp h).isSome

/-- The rank of a candidate for a pair, with the due frame of its hint. -/
def Vexone.bindRank (v : Vexone) (e : HEntry) (c : Ctx) (tracks : BitVec 16) : Nat × Nat :=
  let held := v.sch.bind.any fun b => b.handle == e.handle && b.tracks == tracks && b.answered
  let run := (v.loopOf e.handle).any fun l => decide (l.heldRun + 1 < 2048)
  if v.hasSession e.handle then (1, 0)
  else if e.pin then (2, 0)
  else if c.firstFrame = v.clk.frame.toNat then (3, 0)
  else if e.hinted v.clk.ticks then (4, e.hintTo)
  else if held && run then (5, 0)
  else if !c.converged then (6, 0)
  else (7, 0)

/-- The candidate that a pair takes. -/
def Vexone.bestFor (v : Vexone) (tracks : BitVec 16) (pocket : Option Nat) (taken : List (BitVec 12)) : Option (BitVec 12) :=
  let cs := v.cx.tab.filterMap fun e =>
    match e.ctx with
    | some c =>
      if v.locSegs c.loc == tracks && !taken.contains e.handle && !v.sch.pauses.contains e.handle &&
          (!v.isRack || pocket == some c.pocket) then
        let r := v.bindRank e c tracks
        let age := (v.clk.frame - BitVec.ofNat 32 c.firstFrame).toNat
        some (e.handle, ((r.1 * 2 ^ 64 + r.2) * 2 ^ 33 + (2 ^ 32 - age)) * 4096 + e.handle.toNat)
      else none
    | none => none
  ((sortKey (fun (x : BitVec 12 × Nat) => x.2) cs).head?).map (·.1)

/-- The bindings of the next frame against the entries it is to run. -/
def Vexone.bindNext (v : Vexone) (next : List Entry) : List Binding :=
  (pairsOf next).foldl (fun bs (p : Nat × Nat × Entry × Entry) =>
    let tracks := p.2.2.1.segs
    let s : SegId := (segsOf tracks).getD 0 0
    match v.bestFor tracks (v.pairPocket s next p.2.2.1 p.2.2.2) (bs.map (·.handle)) with
    | some h => bs ++ [{ first := p.1, second := p.2.1, lane := laneOf s, tracks := tracks, handle := h
                         vec := Vector.replicate 4 0, grant := 0, lost := false, served := 0, cur := 0, frag := false
                         cells := 0, answered := false, asked := false, coupled := 0, lit := 0, cand := (0, 0)
                         judged := false, op := (v.waitingOp h).map (·.seq) }]
    | none => bs) []

/-! ## Grants (08 section 8.4; 09 R327, R336) -/

/-- The greatest y of 16 bits with y ≤ 400 × 10^((L − 420)/100) (08 R281). -/
def fieldBudget (limit : Nat) : Nat :=
  let ok := fun (y : Nat) => decide (y ^ 100 * 10 ^ (420 - limit) ≤ 400 ^ 100 * 10 ^ (limit - 420))
  max 1 ((List.range 16).foldl (fun a i => if ok (a + 2 ^ (15 - i)) then a + 2 ^ (15 - i) else a) 0)

/-- A lane's budget in force after reef scaling (08 R281). -/
def Vexone.laneBudget (v : Vexone) (l : LaneId) : Nat :=
  match v.decl with
  | none => 0
  | some d =>
    let eb := fieldBudget d.fieldLimit
    match v.lanes[l].level.val with
    | 0 => eb
    | 3 => 0
    | _ => eb * v.lanes[l].cap / 32

/-- Report fields (08 Table 8-4). -/
def repFld (r : BitVec 64) (hi lo : Nat) : Nat := bitsOf r.toNat hi lo

/-- Twenty times the open-circuit voltage in mV at a charge of g half percent (09 Table 9-10). -/
def ocv20 (g : Nat) : Nat :=
  let row := fun (k : Nat) => [3000, 3550, 3680, 3750, 3800, 3850, 3910, 3970, 4030, 4100, 4200].getD k 4200
  row (g / 20) * (20 - g % 20) + row (g / 20 + 1) * (g % 20)

/-- VCELL of a report in mV. -/
def repVcell (r : BitVec 64) : Nat := 2500 + 8 * repFld r 55 48

/-- Twenty times the cell voltage in mV that grants use (09 R336). -/
def cellV20 (r : BitVec 64) : Nat :=
  let g := repFld r 47 40
  if repFld r 17 17 = 1 ∧ g ≠ 255 then min (20 * repVcell r) (ocv20 (min 200 g)) else 20 * repVcell r

/-- The asked current in 5 uA codes (09 Table 9-8). -/
def askedCode (r : BitVec 64) (pol ichg vchg : Nat) : Nat :=
  if repFld r 13 13 = 1 ∨ pol = 0 then 0
  else if repVcell r < 3000 then max 1 (ichg / 10)
  else if repVcell r + 20 < vchg then ichg
  else ichg / 4

/-- The demand of a pass (08 R282); none before its first report. -/
def passDemand (c : Ctx) (l : LoopRec) : Nat :=
  match l.rep with
  | none => 0
  | some r =>
    let d := ceilDiv (cellV20 r * askedCode r c.pol l.ichgCom l.vchgCom) 200000
    if c.cap = 0xFFFF then d else min c.cap d

/-- Equal share of a budget: a demand below the share is met, and the share is recomputed for the others. -/
def shareOut : Nat → Nat → List (BitVec 12 × Nat) → List (BitVec 12 × Nat)
  | 0, _, _ => []
  | _ + 1, _, [] => []
  | k + 1, r, ds =>
    let share := r / ds.length
    let small := ds.filter fun d => decide (d.2 < share)
    if small.isEmpty then ds.map fun d => (d.1, min d.2 share)
    else small ++ shareOut k (r - (small.map (·.2)).sum) (ds.filter fun d => !decide (d.2 < share))

/-- The grants of a lane for the next frame: the gate pair first, in binding order, then the equal share. -/
def Vexone.laneGrants (v : Vexone) (l : LaneId) (bs : List Binding) : List (BitVec 12 × Nat) :=
  let dem := fun (b : Binding) => match v.ctxOf b.handle, v.loopOf b.handle with | some c, some x => passDemand c x | _, _ => 0
  let gate := bs.filter fun b => !v.isRack && b.tracks &&& (BitVec.ofNat 16 (0xC <<< (4 * l.val))) != 0
  let rest := bs.filter fun b => !gate.any (·.handle == b.handle)
  let (r, gs) := gate.foldl (fun (a : Nat × List (BitVec 12 × Nat)) b => (a.1 - min (dem b) a.1, a.2 ++ [(b.handle, min (dem b) a.1)]))
    (v.laneBudget l, [])
  gs ++ shareOut (rest.length + 1) r (rest.map fun b => (b.handle, dem b))

/-- The gate-pair demand of a lane for 0x0704. -/
def Vexone.gateDemand (v : Vexone) (l : LaneId) (bs : List Binding) : Nat :=
  ((bs.filter fun b => !v.isRack && b.tracks &&& (BitVec.ofNat 16 (0xC <<< (4 * l.val))) != 0).map fun b =>
    match v.ctxOf b.handle, v.loopOf b.handle with | some c, some x => passDemand c x | _, _ => 0).sum

/-! ## Directives (08 sections 8.5, 8.6, 8.9) -/

/-- A directive to a handle becomes the outstanding one, under the next SEQ (08 R297). Charge and PG stages carry a MAC
where the context holds a key (08 R293). -/
def Vexone.newDirective (v : Vexone) (h : BitVec 12) (op arg : Nat) : Vexone :=
  match v.ctxOf h with
  | none => v
  | some c =>
    let seq := (c.seq + 1) % 16
    let auth := c.flags.getLsbD 1 && (op == 4 || op == 5 || op == 6)
    let w := directiveWord h.toNat v.bankId seq op arg auth
    let bs := copyBits w (if auth then some (directiveMac c.key c.passId c.nonce c.acnt w) else none)
    let v := v.modCtx h fun c => { c with seq := seq, outstanding := true }
    v.modLoop h fun l =>
      { l with dir := some { bits := bs, seq := seq, op := op, arg := arg, auth := auth, sentA := 0, sentB := 0, endA := 0, endB := 0
                             lapsed := false } }

/-- A directive waits for its turn. -/
def Vexone.queueDirective (v : Vexone) (h : BitVec 12) (op arg : Nat) : Vexone :=
  v.modLoop h fun l => if l.queue.contains (op, arg) then l else { l with queue := l.queue ++ [(op, arg)] }

/-- The directive that the device chooses of its own accord, where it is one that Table 8-5 allows (log entry 10). -/
def chosenDirective (key : Bool) (d : Option (Nat × Nat)) : List (Nat × Nat) :=
  match d with
  | some (op, arg) =>
    if op = 2 then [(2, arg % 512 * 32)]
    else if op = 3 then [(3, arg % 256)]
    else if op = 8 then [(8, arg % 4)]
    else if op = 5 && key then [(5, arg % 201), (7, 2)]
    else if op = 6 && key then [(6, arg % 1024), (7, 4)]
    else []
  | none => []

/-- With nothing outstanding, the next waiting directive goes out; with none waiting, what the device chooses. -/
def Vexone.pumpDirective (v : Vexone) (h : BitVec 12) : Vexone :=
  match v.loopOf h, v.ctxOf h with
  | some l, some c =>
    if l.dir.isSome || !c.tagged || l.mute then v
    else
      let (v, q) := if l.queue.isEmpty then (v.draw, chosenDirective (c.flags.getLsbD 1) (Config.direct v.fresh)) else (v, l.queue)
      match q with
      | (op, arg) :: rest =>
        let v := (v.modLoop h fun l => { l with queue := rest }).newDirective h op arg
        let v := v.modLoop h fun l =>
          if op = 4 then { l with ichg := arg } else if op = 5 then { l with vchg := 3800 + 2 * arg } else l
        if op = 2 then v.modCtx h fun c => { c with tune := arg / 256, ratio := arg / 32 % 8 + 1 }
        else if op = 3 then v.modCtx h fun c => { c with vtgt := arg }
        else v
      | [] => v
  | _, _ => v

/-- A stage or a commit of the charge current is under way to a handle. -/
def LoopRec.ichgDue (l : LoopRec) : Bool :=
  l.queue.any (fun q => q.1 == 4 || (q.1 == 7 && q.2 % 2 == 1)) ||
  l.dir.any fun d => d.op == 4 || (d.op == 7 && d.arg % 2 == 1)

/-- A new charge current goes to a pass where it differs from the one in force by 10 percent or more, or where the grant is 0; the
least code is 1 (08 R283, R295). -/
def Vexone.sendCurrent (v : Vexone) (h : BitVec 12) (grant : Nat) : Vexone :=
  match v.loopOf h, v.ctxOf h with
  | some l, some c =>
    match l.rep with
    | some r =>
      if !c.tagged then v
      else
        let code := max 1 (min 400 (grant * 200000 / cellV20 r))
        if code ≠ l.ichgCom ∧ (grant = 0 ∨ l.ichgCom ≤ 10 * (code - l.ichgCom) + 10 * (l.ichgCom - code)) ∧ !l.ichgDue then
          (v.queueDirective h 4 code).queueDirective h 7 1
        else v
    | none => v
  | _, _ => v

/-- A bit of the downlink (08 R285). -/
def cellOf (b : Bool) : SbCell := if b then .one else .zero

/-- The cells of a fragment: its markers, COPY, TAG most significant first, and its data, ID after the end of the copy (08 R286,
R287). -/
def fragmentCells (cells : Nat) (start copyB : Bool) (tag : Nat) (data : List Bool) : List SbCell :=
  let head := (if start then [SbCell.sy] else []) ++ [SbCell.sy, cellOf copyB] ++ (natBits 4 tag).map cellOf
  (head ++ data.map cellOf ++ List.replicate cells SbCell.idle).take cells

/-- The CCLK times at which the dips of some cells begin, 4,096 CCLK a cell (08 R285). -/
def dipTimes (t : Nat) (cells : List SbCell) : List Nat :=
  (cells.zip (List.range cells.length)).flatMap fun x =>
    let a := t + 4096 * x.2
    match x.1 with
    | .zero => [a]
    | .one => [a + 2048]
    | .sy => [a, a + 2048]
    | .idle => []

/-- The cells of a fragment put out on a pair from a CCLK time. -/
def Vexone.putFragment (v : Vexone) (m : BitVec 16) (t : Nat) (cells : List SbCell) : Vexone :=
  (v.forSegs (m &&& v.unfurled) fun v s => v.modSeg s fun x => { x with dips := dipTimes t cells }).put (.sideband t m cells)

/-- The fragment of a P cleat (08 R286, R287): none in a cleat of less than 8 cells, nor for a pass with no tag. A fragment
cut by a neighbour's pause loses its copy, which is not sent again (08 R302), and the report in progress (08 R289). -/
def Vexone.sendFragment (v : Vexone) (b : Binding) (e : Entry) (second cut : Bool) : Vexone :=
  let cells := (e.dur - 128) / 4096
  match v.ctxOf b.handle, v.loopOf b.handle with
  | some c, some l =>
    if cells < 8 || l.mute || !(c.tagged || l.offer.isSome) then v
    else
      let live := l.dir.filter fun d => !d.lapsed
      let sent := match live with | some d => if second then d.sentB else d.sentA | none => 0
      let bits := match live with | some d => d.bits | none => []
      let start := live.isSome && sent = 0
      let head := if start then 7 else 6
      let n := min (cells - head) (bits.length - sent)
      let t := v.clk.t0 + e.start + 64
      let v := v.putFragment b.tracks t (fragmentCells cells start second (if c.tagged then c.tag else l.offer.getD 0) ((bits.drop sent).take n))
      let upTo := if cut then (if n = 0 then sent else bits.length) else sent + n
      let ends := if n = 0 then none else some (t + 4096 * (head + n))
      let dir := l.dir.map fun d =>
        if d.lapsed then d
        else if second then { d with sentB := upTo, endB := ends.getD d.endB }
        else { d with sentA := upTo, endA := ends.getD d.endA }
      if cut then
        let v := v.modLoop b.handle fun l =>
          { l with dir := dir, bMissed := l.bMissed + bit c.tagged, missed := l.missed || c.tagged
                   repAt := l.repAt.map fun _ => t + 4096 * cells }
        v.modCtx b.handle fun c => { c with missedRep := satTo 255 (c.missedRep + bit c.tagged) }
      else
        let v := v.modLoop b.handle fun l => { l with dir := dir }
        { v with sch := { v.sch with bind := v.sch.bind.map fun y =>
            if y.handle = b.handle then { y with frag := true, cells := n, asked := y.asked || c.tagged } else y } }
  | _, _ => v

/-- A fragment withheld for an ISO exchange loses the copy in progress (07 R256; 08 R307). -/
def Vexone.withhold (v : Vexone) (h : BitVec 12) (second : Bool) : Vexone :=
  v.modLoop h fun l => { l with dir := l.dir.map fun d =>
    let sent := if second then d.sentB else d.sentA
    if sent < d.bits.length then (if second then { d with sentB := 0 } else { d with sentA := 0 }) else d }

/-- The tag of a handle dropped, with its directives; an outstanding one counts as lost (08 R299; 18 R613). -/
def Vexone.releaseTag (v : Vexone) (h : BitVec 12) : Vexone :=
  match v.ctxOf h, v.loopOf h with
  | some c, some l =>
    let lost := bit (l.dir.isSome && c.tagged)
    let v := v.freeTag h
    let v := v.modLane (v.laneOfLoc c.loc) fun x => { x with cnt := vcount x.cnt 7 lost }
    let v := v.modLoop h fun l =>
      { l with dir := none, queue := [], offer := none, beacons := 0, keeps := 0, noRep := 0, repAt := none, ichg := l.ichgCom
               vchg := l.vchgCom, bLost := l.bLost + lost }
    let v := v.modCtx h fun c => { c with tagged := false, outstanding := false }
    if c.tagged then v.passEvent c (some c.tag) 3 else v
  | _, _ => v

/-- The copies in progress to a handle lapse (08 R304, R309). -/
def Vexone.lapseCopies (v : Vexone) (h : BitVec 12) : Vexone := v.modLoop h fun l => { l with dir := l.dir.map OutDir.lapse }

/-- The copies in progress to every handle lapse. -/
def Vexone.lapseAll (v : Vexone) : Vexone :=
  { v with cx := { v.cx with loops := v.cx.loops.map fun (l : LoopRec) => { l with dir := l.dir.map OutDir.lapse } } }

/-! ## Edge 200,000 -/

/-- Tags offered to the bound handles that have none, and their BEACONs (08 R272, R273). -/
def Vexone.offerTags (v : Vexone) (bs : List Binding) : Vexone :=
  bs.foldl (fun v b =>
    match v.ctxOf b.handle, v.loopOf b.handle with
    | some c, some l =>
      if c.tagged || l.mute || v.clk.ticks < l.quietTo then v
      else match l.offer with
        | some _ =>
          if (l.dir.any fun d => d.endedBy v.now) && decide (l.beacons < 16) then
            (v.newDirective b.handle 0x3F 0).modLoop b.handle fun l => { l with beacons := l.beacons + 1 }
          else v
        | none =>
          match v.freeTagAt c.loc with
          | some t =>
            let v := (v.holdTag c.loc t b.handle).newDirective b.handle 0x3F 0
            let v := v.modLoop b.handle fun l => { l with offer := some t, beacons := 1, noTag := false }
            v.passEvent c (some t) 0
          | none =>
            if l.noTag then v
            else (v.modLoop b.handle fun l => { l with noTag := true }).passEvent c none 2
    | _, _ => v) v

/-- The grants of the next frame, the demands they met, and the currents that follow (08 R282, R283, Table 8-9); none once the
reference is lost (08 R309). -/
def Vexone.grantAll (v : Vexone) (bs : List Binding) : Vexone × List Binding :=
  if v.onBackup then (v, bs)
  else (List.finRange 4).foldl (fun (a : Vexone × List Binding) l =>
    let (v, bs) := a
    let mine := bs.filter fun b => b.lane == l
    let gs := v.laneGrants l mine
    let poor := decide (v.laneBudget l < v.gateDemand l mine)
    let v := v.modLane l fun x => { x with short := if poor then x.short + 1 else 0 }
    let v := if poor && v.lanes[l].short == 64 then v.latchF 0x0704 l.val else v
    let v := mine.foldl (fun v b =>
      let d := match v.ctxOf b.handle, v.loopOf b.handle with | some c, some x => passDemand c x | _, _ => 0
      v.modCtx b.handle fun c => { c with demand := satTo 65535 d }) v
    let v := gs.foldl (fun v g => v.sendCurrent g.1 g.2) v
    (v, bs.map fun b => match gs.lookup b.handle with | some g => { b with grant := g } | none => b)) (v, bs)

/-- The carrier vector of each segment for the next frame (08 R279). -/
def Vexone.chooseCarriers (v : Vexone) : Vexone :=
  (List.finRange 16).foldl (fun v s =>
    let loc := v.locOf s
    let cs := v.cx.tab.filterMap fun e =>
      match e.ctx with
      | some c => if c.loc == loc && c.converged && (!v.isRack || c.pocket == v.pocketOf s) then
          let iso := v.atGate loc && v.sess.any fun x => x.handle == e.handle && x.phase != .over
          some (c, (if iso then 0 else 2 ^ 33) + (2 ^ 32 - (v.clk.frame - BitVec.ofNat 32 c.firstFrame).toNat))
        else none
      | none => none
    let cap := v.lanes[laneOf s].cap
    v.modSeg s fun x =>
      match if v.isRack then none else (sortKey (fun (y : Ctx × Nat) => y.2) cs).head? with
      | some (c, _) => if s.val % 2 = 0 then { x with ncp := c.vec[0], ncs := c.vec[1], fresh := false }
                       else { x with ncp := c.vec[2], ncs := c.vec[3], fresh := false }
      | none => if x.fresh then { x with ncs := cap, fresh := false } else x) v

/-- What edge 200,000 decides of the energy loop for the next frame (06 R206; 08 R275, R279, R282). -/
def Vexone.decideEnergy (v : Vexone) (next : List Entry) : Vexone :=
  let v := v.judgeAll.judgeRestarts
  let v := v.sch.bind.foldl (fun v b => v.moveToGate b) v
  let v := v.createAll
  let bs := v.bindNext next
  let v := bs.foldl (fun v b => v.ensureLoop b.handle) v
  let v := v.offerTags bs
  let (v, bs) := v.grantAll bs
  let v := bs.foldl (fun v b => v.pumpDirective b.handle) v
  let v := v.chooseCarriers
  let bs := bs.map fun b => match v.ctxOf b.handle, v.loopOf b.handle with
    | some c, some l => { b with vec := v.vectorFor c l, cand := l.now c }
    | _, _ => b
  { v with sch := { v.sch with nbind := bs } }

/-! ## The tick -/

/-- The ledgers of the frame that ends: a pass not served, or whose service was cut, records a grant of 0 (08 R283; 07 R250;
02 R80). -/
def Vexone.closeLedgers (v : Vexone) : Vexone :=
  let v := v.judgeAll
  let v := v.cx.loops.foldl (fun v l =>
    match v.ctxOf l.handle with
    | none => v
    | some c =>
      match v.sch.bind.find? (fun b => b.handle == l.handle) with
      | some b =>
        let ok := b.served != 0
        let g := if ok && !b.lost then b.grant else 0
        let v := v.modCtx l.handle fun c => { c with grantTot := satTo 0xFFFFFFFF (c.grantTot + g), grantLast := g }
        let v := v.modLane (v.laneOfLoc c.loc) fun x => { x with cnt := vcount (vcount x.cnt 2 (bit ok)) 3 g }
        v.modLoop l.handle fun l =>
          { l with bServed := l.bServed + bit ok, bGrant := l.bGrant + g, heldRun := l.heldRun + 1, missRun := l.missesBy b }
      | none =>
        let v := if c.grantLast = 0 then v else v.modCtx l.handle fun c => { c with grantLast := 0 }
        v.modLoop l.handle fun l => { l with heldRun := 0 }) v
  let v := v.modCx fun x => { x with loops := x.loops.map fun (l : LoopRec) => { l with noRep := l.noRep + 1, got := false, missed := false } }
  { v with segs := v.segs.map fun (s : Seg) => { s with meter := s.meter.endFrame } }

/-- A handle that takes another pair of segments starts its run anew. -/
def Vexone.newRuns (v : Vexone) (old : List Binding) : Vexone :=
  v.sch.bind.foldl (fun v b =>
    if old.any (fun o => o.handle == b.handle && o.tracks == b.tracks) then v
    else v.modLoop b.handle fun l => { l with heldRun := 0 }) v

/-- The carrier vectors chosen take effect, and with the caps in force fall due on every segment that coasts (07 R233, R266,
R271). -/
def Vexone.tickCarriers (v : Vexone) : Vexone :=
  ({ v with segs := v.segs.map fun (s : Seg) => { s with cp := s.ncp, cs := s.ncs } } : Vexone).forSegs 0xFFFF Vexone.coast

/-- The pass bench record of a handle (08 Table 8-8). -/
def passRecord (c : Ctx) (l : LoopRec) : TeleRec :=
  let s := fun n => satTo 65535 n
  let r := l.rep.getD 0
  { kind := 0x0701, bench := 0, inexact := false
    payload := padTo 52 (le 2 c.handle ++ le 1 c.loc ++ le 1 (c.trials + 128 * bit c.converged) ++
      le 4 (satTo 0xFFFFFFFF l.bGrant) ++ le 4 (satTo 0xFFFFFFFF l.bDeliv) ++ le 2 c.cBest ++ le 2 (s l.bServed) ++
      le 2 (s l.bGood) ++ le 2 (s l.bMissed) ++ le 2 (s l.bDone) ++ le 2 (s l.bLost) ++ le 1 0 ++
      le 1 (repFld r 55 48) ++ le 1 (repFld r 47 40) ++ le 1 (repFld r 18 12)) }

/-- The records of the handles served in the bench (08 R300), in ascending order of the handles (log entry 110), those whose context
has left the store among them, as it left. -/
def Vexone.passRecords (v : Vexone) : List TeleRec :=
  (sortKey (fun (l : LoopRec) => l.handle.toNat) v.cx.loops).filterMap fun l =>
    match (v.ctxOf l.handle).or l.last with
    | some c => if l.bServed = 0 then none else some (passRecord c l)
    | none => none

/-- A record is still wanted: its context is resident, or has left fewer than 16 frames ago (08 R305). -/
def Vexone.keepsLoop (v : Vexone) (l : LoopRec) : Bool := l.away.all fun t => decide (v.clk.ticks < t + 16)

def LoopRec.newBench (l : LoopRec) : LoopRec :=
  { l with bGrant := 0, bDeliv := 0, bServed := 0, bGood := 0, bMissed := 0, bDone := 0, bLost := 0 }

/-! ## Reports and hellos (08 sections 8.2, 8.7, 8.9) -/

/-- The CRC of a report string is right. -/
def repGood (bits : BitVec 64) : Bool := crc8 (natBits 56 (bits.toNat / 256)) == bits.toNat % 256

/-- A hello's PASS_ID and NONCE (08 Table 8-4). -/
def helloId (bits : BitVec 64) : Nat := repFld bits 63 32

def helloNonce (bits : BitVec 64) : Nat := repFld bits 31 16

/-- The outstanding directive delivered: what it changes at the pass is known from then (08 R299). -/
def Vexone.delivered (v : Vexone) (h : BitVec 12) (c : Ctx) (d : OutDir) : Vexone :=
  let v := v.modCtx h fun c =>
    { c with outstanding := false, acnt := if d.auth then (c.acnt + 1) % 256 else c.acnt
             pol := if d.op = 8 then d.arg % 4 else c.pol }
  let v := v.modLane (v.laneOfLoc c.loc) fun x => { x with cnt := vcount x.cnt 6 }
  let v := v.modLoop h fun l =>
    { l with dir := none, bDone := l.bDone + 1
             ichgCom := if d.op = 7 ∧ d.arg % 2 = 1 then l.ichg else l.ichgCom
             vchgCom := if d.op = 7 ∧ d.arg / 2 % 2 = 1 then l.vchg else l.vchgCom }
  v.pumpDirective h

/-- The outstanding directive lost: it is sent again under the next SEQ (08 R299). -/
def Vexone.undelivered (v : Vexone) (h : BitVec 12) (c : Ctx) (d : OutDir) : Vexone :=
  let v := v.modLane (v.laneOfLoc c.loc) fun x => { x with cnt := vcount x.cnt 7 }
  let v := v.modLoop h fun l => { l with bLost := l.bLost + 1 }
  v.newDirective h d.op d.arg

/-- A good report of this bank. -/
def Vexone.takeReport (v : Vexone) (h : BitVec 12) (c : Ctx) (l : LoopRec) (bits : BitVec 64) : Vexone :=
  let v := if repFld bits 14 14 = 1 then v.laneFault 0x0702 c.loc else v
  let v := if repFld bits 13 13 = 1 then v.laneFault 0x0703 c.loc else v
  let units := match l.rep with | some r => Config.delivered r bits | none => 0
  let last := repFld bits 22 19
  let v := v.modCtx h fun c =>
    { c with lastSeq := last, lastFrame := v.clk.frame.toNat, delivTot := satTo 0xFFFFFFFF (c.delivTot + units) }
  let v := v.modLoop h fun l =>
    { l with rep := some bits, noRep := 0, keeps := 0, got := true, bGood := l.bGood + 1
             bDeliv := l.bDeliv + units, repAt := some v.now }
  match l.dir with
  | some d =>
    if d.endedBy (l.repAt.getD v.now) then (if last = d.seq then v.delivered h c d else v.undelivered h c d) else v
  | none => v

/-! ## Fills that arrive (06 R204, R210; 08 R305) -/

/-- A hint-protected flag due to a handle that becomes resident (06 R210). -/
def Vexone.hintArrive (v : Vexone) (h : BitVec 12) : Vexone :=
  match v.cx.hints.find? (fun (q : Hint) => q.handle == h) with
  | some q => v.modH h fun e => { e with hintTo := max e.hintTo (q.due + 64) }
  | none => v

/-- The energy loop resumes after a fill: as it was where the context was away for fewer than 16 frames, else with a search restart
from its vector, where a search had begun (08 R305). -/
def Vexone.resumeLoop (v : Vexone) (h : BitVec 12) (soon : Bool) : Vexone :=
  match v.ctxOf h with
  | none => v
  | some c =>
    let begun := c.vec.toList.any (· != 0)
    let back := fun (l : LoopRec) => ({ l with away := none, last := none } : LoopRec)
    match v.loopOf h with
    | some l =>
      if soon || l.fromCarrier then v.modLoop h back
      else (v.modLoop h fun l => (back l).from c.vec).restartSearch h
    | none =>
      if begun then
        (v.modCx fun x => { x with loops := x.loops ++ [{ LoopRec.start h c.vec with fromCarrier := false }] }).restartSearch h
      else v

/-- A fill's data arrives and is checked. -/
def Vexone.fillArrive (v : Vexone) (h : BitVec 12) (op : Option Place) (b : List Byte) : Vexone :=
  let e := v.cx.get h
  let ok := leAt b 0x7E 2 == crc16 (b.take 0x7E) && leAt b 0 2 == h.toNat && leAt b 2 2 == e.gen.toNat && e.tracked &&
    b.length == 128
  if ok then
    let slot := e.slot.getD 0
    let soon := decide (v.clk.ticks < e.spillTick + 16)
    let c := Ctx.ofBytes b (v.unwrapped b)
    let c := if e.spillTick < e.visitAt then c.setIso 0 else c
    let v := v.modH h fun e => { e with ctx := some c, clean := true, busy := false }
    let v := (v.hintArrive h).resumeLoop h soon
    v.endFills h fun o => (stOk, slot + (if op = some o.place then 0 else 0x8000))
  else
    let v := ((v.dropFill h).modCx fun x => { x with checkFail := x.checkFail + 1 }).cxFault 0x0504 h.toNat
    v.endFills h fun _ => (stNoContext, 0x0504)

end Sys2Proof.Machine
end

