-- ==== Sys2Proof/Machine/Iso.lean ====
section
/-! DEFINITION. ISO/IEC 14443 on the reader side (07 section 7.9): sessions, PCD frames and their windows, answers, waits and
the session timeout, the P cleat, and the session operations of 05 Table 5-4. -/

namespace Sys2Proof.Machine

open Sys2Proof

/-! ## Sessions -/

def Vexone.sessOf (v : Vexone) (p : Place) : Option Session := v.sess.find? fun x => x.place == p

def Vexone.modSess (v : Vexone) (p : Place) (f : Session → Session) : Vexone :=
  { v with sess := v.sess.map fun x => if x.place = p then f x else x }

def Vexone.dropSess (v : Vexone) (p : Place) : Vexone := { v with sess := v.sess.filter fun x => x.place != p }

/-- A counter of every unfurled segment of a pair raised (07 R262). -/
def Vexone.countSegs (v : Vexone) (m : BitVec 16) (k : Nat) : Vexone :=
  v.forSegs (m &&& v.unfurled) fun v s => v.modSeg s fun x => { x with cnt := vcount x.cnt k }

/-- A session ends with its operation; a session that ends short of its goal leaves the pass indeterminate. -/
def Vexone.endSess (v : Vexone) (x : Session) (iso status detail : Nat) (result : List Byte := []) : Vexone :=
  let v := (v.dropSess x.place).modCtx x.handle fun c => { c.setIso iso with attempt := 0 }
  v.complete x.place status detail result

/-! ## PCD frames (07 R255, R257) -/

/-- CCLK of one bit at a rate (07 R255). -/
def bitTime (rate : Nat) : Nat := if rate = 0 then 2048 else if rate = 1 then 1024 else 512

/-- CCLK of a standard frame of n bytes. -/
def frameTime (rate n : Nat) : Nat := (9 * n + 2) * bitTime rate

/-- FSC of an FSCI (ISO/IEC 14443-4). -/
def fscOf (fsci : Nat) : Nat := [16, 24, 32, 40, 48, 64, 96, 128, 256].getD fsci 256

/-- CCLK of an anticollision frame that carries k bits of a UID: two bytes, and those bits as whole bytes and a part (07 R255; log
entry 112). -/
def anticollTime (k : Nat) : Nat := (9 * (2 + k / 8) + 2 + k % 8) * bitTime 0

/-- The SEL byte of a cascade level (ISO/IEC 14443-3). -/
def selOf (level : Nat) : Byte := BitVec.ofNat 8 (0x91 + 2 * level)

/-- The frame that a session sends next into a room of CCLK: its length and the command bytes that it carries; none where
it does not fit (07 R255). -/
def Session.frame (x : Session) (c : Ctx) (room : Nat) : Option (Nat × Nat) :=
  let fit := fun (t : Nat) => if t ≤ room then some (t, 0) else none
  match x.phase with
  | .wake => fit (frameTime c.rate 3)
  | .request => fit (9 * bitTime 0)
  | .anticoll _ => fit (anticollTime x.known.length)
  | .select _ => fit (frameTime 0 9)
  | .rats => fit (frameTime 0 4)
  | .pps => fit (frameTime 0 5)
  | .command sent =>
    if x.wtx then fit (frameTime c.rate 4)
    else if x.nak then fit (frameTime c.rate 3)
    else
      let n := (room / bitTime c.rate - 2) / 9
      let k := min (x.cmdLen - sent) (min (fscOf c.fsci - 3) (n - 3))
      if k = 0 then none else some (frameTime c.rate (k + 3), k)
  | .response => if x.wtx then fit (frameTime c.rate 4) else fit (frameTime c.rate 3)
  | .deselect => fit (frameTime c.rate 3)
  | .over => none

/-- A frame's bytes with CRC_A behind them, as bits in order. -/
def withCrc (bs : List Byte) : List Bool := lsbBits (bs ++ crcA bs)

/-- The bits of the frame that a session sends next, with k bytes of a command in it (ISO/IEC 14443-3 and -4; 07 Table 7-10; log
entry 112). -/
def Session.pcdBits (x : Session) (buf : List Byte) (k : Nat) : List Bool :=
  let n := bit x.block
  match x.phase with
  | .wake | .deselect => withCrc [0xC2]
  | .request => (lsbBits [0x52]).take 7
  | .anticoll level => lsbBits [selOf level, BitVec.ofNat 8 (16 * (2 + x.known.length / 8) + x.known.length % 8)] ++ x.known
  | .select level => withCrc ([selOf level, 0x70] ++ x.cl ++ [x.cl.foldl (fun a y => a ^^^ y) 0])
  | .rats => withCrc [0xE0, 0x50]
  | .pps => withCrc [0xD0, 0x11, BitVec.ofNat 8 (5 * x.maxRate)]
  | .command sent =>
    if x.wtx then withCrc [0xF2, BitVec.ofNat 8 x.wtxm]
    else if x.nak then withCrc [BitVec.ofNat 8 (0xB2 + n)]
    else withCrc (BitVec.ofNat 8 (0x02 + n + (if sent + k < x.cmdLen then 0x10 else 0)) :: (buf.drop sent).take k)
  | .response =>
    if x.wtx then withCrc [0xF2, BitVec.ofNat 8 x.wtxm]
    else if x.nak then withCrc [BitVec.ofNat 8 (0xB2 + n)] else withCrc [BitVec.ofNat 8 (0xA2 + n)]
  | .over => []

/-- The rate of the frame that a session sends next: activation runs at 106 kbit/s (07 R254). -/
def Session.pcdRate (x : Session) (c : Ctx) : Nat :=
  match x.phase with
  | .request | .anticoll _ | .select _ | .rats | .pps => 0
  | _ => c.rate

/-- The wait for an answer in CCLK (07 R257). -/
def Session.wait (x : Session) (c : Ctx) : Nat :=
  let fwt := 4096 * 2 ^ c.fwi
  let fwt := if x.wtxm = 0 then fwt else min (fwt * x.wtxm) (4096 * 2 ^ 14)
  16 * match x.phase with
  | .request | .anticoll _ | .select _ => 1300
  | .rats => 65536
  | _ => fwt + 49152

/-- A PCD frame sent where it fits between two CCLK times of a window; whether one was sent is told as well. -/
def Vexone.trySend (v : Vexone) (p : Place) (frm upto : Nat) : Vexone × Bool :=
  match v.sessOf p with
  | some x =>
    match v.ctxOf x.handle with
    | some c =>
      let t := max frm (((v.loopOf x.handle).map (·.pcdFrom)).getD 0)
      if !x.toSend || x.listening || x.phase = .over then (v, false)
      else match x.frame c (upto - t) with
        | some (len, k) =>
          let buf := ((v.opAt p).map (·.buf)).getD []
          let vec := ((v.sch.bind.find? fun b => b.handle == x.handle).map (·.vec)).getD x.vec
          let v := v.modSess p fun x =>
            { x with toSend := false, listening := true, listenTo := t + len + x.wait c, wtx := false, nak := false,
                     chunk := if k = 0 then x.chunk else k, vec := vec }
          let v := v.put (.pcd t (x.tracks &&& v.unfurled) (x.pcdRate c) (x.pcdBits buf k))
          let v := v.forSegs (x.tracks &&& v.unfurled) fun v s => v.modSeg s fun g => { g with modEnd := t + len }
          (v.countSegs x.tracks 5, true)
        | none => (v, false)
    | none => (v, false)
  | none => (v, false)

/-- The session that runs for a handle. -/
def Vexone.sessFor (v : Vexone) (h : BitVec 12) : Option Session := v.sess.find? fun x => x.handle == h && x.phase != .over

/-- The exchange window of an entry, as CCLK times (07 R240). -/
def Vexone.window (v : Vexone) (e : Entry) : Nat × Nat := (v.clk.t0 + e.start + 64, v.clk.t0 + e.start + e.dur - 64)

/-- The exchange window of the P cleat in progress for a handle at this edge. -/
def Vexone.openWindow (v : Vexone) (h : BitVec 12) : Option (Nat × Nat) :=
  match v.sch.bind.find? (fun b => b.handle == h) with
  | some b =>
    let i := if b.cur = 2 then b.second else b.first
    if b.cur = 0 then none else (v.entry i).map v.window
  | none => none

/-- The next frame follows in the same window where it fits: no sooner than 1,172 carrier periods after an answer (07 R240, R257). -/
def Vexone.sendOn (v : Vexone) (p : Place) : Vexone :=
  match v.sessOf p with
  | some x => match v.openWindow x.handle with
    | some (frm, upto) => (v.trySend p (max frm v.now) upto).1
    | none => v
  | none => v

/-! ## The P cleat (07 Table 7-4) -/

/-- A vector applied to the segments of a P cleat, in ascending order. -/
def Vexone.steer (v : Vexone) (e : Entry) (vec : Vector Nat 4) : Vexone :=
  (v.forSegs e.segs fun v s =>
    if s.val % 2 = 0 || v.isRack then v.applyVector s vec[0] vec[1] (e.start + e.dur) true
    else v.applyVector s vec[2] vec[3] (e.start + e.dur) true)

/-- The two amplitudes that a vector gives a segment of a pair: the one asked for, as its lane's cap lets it be (07 R233). -/
def Vexone.ampFor (v : Vexone) (vec : Vector Nat 4) (s : SegId) : Nat :=
  min (if s.val % 2 = 0 || v.isRack then vec[1] else vec[3]) v.lanes[laneOf s].cap

/-- The real power of a pair measured over a P cleat, and the coupled power times its length (08 R276). -/
def Vexone.measurePair (v : Vexone) (e : Entry) (vec : Vector Nat 4) (uW : Vector Nat 2) : Vexone × Int :=
  (segsOf e.segs).foldl (fun (a : Vexone × Int) s =>
    let p := if s.val % 2 = 0 || a.1.isRack then uW[0] else uW[1]
    let x := (a.1.fb.vout * sineOf (a.1.ampFor vec s)) ^ 2 * e.dur
    if a.1.segs[s].live then
      (a.1.measure s p (a.1.ampFor vec s) e.dur false, a.2 + p * e.dur - a.1.segs[s].meter.loss x)
    else a) (v, 0)

/-- What a bound P cleat carries: an ISO frame of the pass's session, else a sideband fragment (07 R256; 08 R307). -/
def Vexone.exchange (v : Vexone) (b : Binding) (e : Entry) (second cut : Bool) : Vexone :=
  let heard := v.sess.any fun x => x.listening && x.tracks &&& b.tracks != 0
  let (v, sent) := match v.sessFor b.handle with
    | some x => if heard then (v, false) else v.trySend x.place (v.window e).1 (v.window e).2
    | none => (v, false)
  if heard || sent then v.withhold b.handle second else v.sendFragment b e second cut

/-! ## Session operations (05 R172, Table 5-4) -/

/-- Another handle of the lane is ISO-activated or in a session (07 Table 7-10). -/
def Vexone.laneBusy (v : Vexone) (h : BitVec 12) : Bool :=
  match v.ctxOf h with
  | none => false
  | some c =>
    let l := v.laneOfLoc c.loc
    v.sess.any (fun x => x.lane == l && x.handle != h && x.phase != .over) ||
    v.cx.tab.any fun e => e.handle != h && (e.ctx.any fun d =>
      v.laneOfLoc d.loc == l && (d.isoState == 1 || d.isoState == 2))

/-- The pass is not activated. -/
def Vexone.notActivated (v : Vexone) (h : BitVec 12) : Bool := !((v.ctxOf h).any fun c => c.isoState == 2)

/-- The shortest session timeout for a number of retries (07 R259). -/
def sessMin (retries : Nat) : Nat := 83 * (retries + 1)

/-! ## Answers (07 R257, R258, R260) -/

/-- An error, a missing answer or a bad one, costs one attempt: after RETRIES further ones the operation ends, with ST_PASS_LOST
where none of them was answered and with ST_PROTOCOL else (07 R258; 05 Table 5-2; log entry 59). A WTX in force ends with it. The
S(DESELECT) that precedes an activation need not be answered (07 R260). -/
def Vexone.sessError (v : Vexone) (x : Session) (missing : Bool := false) : Vexone :=
  let silent := x.silent && missing
  let v := v.modCtx x.handle fun c => { c with wtxm := 0, block := c.block &&& 3 }
  if x.phase = .wake then
    (v.modSess x.place fun x => { x with phase := .request, listening := false, toSend := true, wtxm := 0 }).sendOn x.place
  else if x.retries < x.attempts + 1 then v.endSess x 3 (if silent then stPassLost else stProtocol) 0
  else
    let dep := match x.phase with | .command _ | .response => true | _ => false
    let v := v.modCtx x.handle fun c => { c with attempt := x.attempts + 1, retryTot := satTo 255 (c.retryTot + 1) }
    (v.modSess x.place fun x =>
      { x with attempts := x.attempts + 1, listening := false, toSend := true, nak := dep, wtx := false, wtxm := 0
               silent := silent }).sendOn x.place

/-- No PCD frame goes to a pass before a time from now, in carrier periods (07 R257). -/
def Vexone.guardPass (v : Vexone) (h : BitVec 12) (periods : Nat) : Vexone :=
  v.modLoop h fun l => { l with pcdFrom := max l.pcdFrom (v.now + 16 * periods) }

/-- A session goes on: the answer was good, and the next frame is due. -/
def Vexone.sessNext (v : Vexone) (x : Session) (f : Session → Session) : Vexone :=
  let v := v.modCtx x.handle fun c => { c with attempt := 0 }
  (v.modSess x.place fun x =>
    f { x with listening := false, toSend := true, attempts := 0, wtxm := 0, silent := true }).sendOn x.place

/-- IDENTITY: UID, its length, SAK (06 Table 6-1). -/
def identityOf (uid : List Byte) (sak : Nat) : List Byte :=
  padTo 16 (padTo 10 uid ++ le 1 uid.length ++ le 1 sak)

/-- An activation ends well: UID, SAK and ATS go to the buffer, and DETAIL counts their bytes (05 Table 5-4). -/
def Vexone.activated (v : Vexone) (x : Session) (iso : Nat) (ats : List Byte) : Vexone :=
  let out := x.uid ++ le 1 x.sak ++ ats
  let v := v.modCtx x.handle fun c => { c with identity := identityOf x.uid x.sak, rcvd := satTo 65535 out.length }
  let v := v.modLane x.lane fun l => { l with cnt := vcount l.cnt 4 }
  v.endSess x iso stOk out.length out

/-- TA(1), TB(1) and FSCI of an ATS (ISO/IEC 14443-4); none where it is malformed. -/
def atsFields (b : List Byte) : Option (Nat × Nat × Nat) :=
  match b with
  | [] => none
  | tl :: rest =>
    if tl.toNat ≠ b.length then none
    else match rest with
      | [] => some (0, 0x40, 2)
      | t0 :: r =>
        let ta := if t0.getLsbD 4 then (r.getD 0 0).toNat else 0
        let tb := if t0.getLsbD 5 then (r.getD (bit (t0.getLsbD 4)) 0).toNat else 0x40
        some (ta, tb, t0.toNat % 16)

/-- The highest rate that MAXRATE and TA(1) allow in both directions (07 Table 7-10). -/
def rateOf (maxRate ta : Nat) : Nat :=
  if 2 ≤ maxRate ∧ ta.testBit 1 ∧ ta.testBit 5 then 2
  else if 1 ≤ maxRate ∧ ta.testBit 0 ∧ ta.testBit 4 then 1
  else 0

/-- The ATS received. -/
def Vexone.takeAts (v : Vexone) (x : Session) (b : List Byte) : Vexone :=
  match atsFields b with
  | none => v.sessError x
  | some (ta, tb, fsci) =>
    let fwi := tb / 16
    if 8 < fwi then v.endSess x 3 stProtocol 0
    else
      let sfgi := tb % 16
      let rate := rateOf x.maxRate ta
      let v := v.modCtx x.handle fun c => { c with fwi := fwi, sfgi := sfgi, fsci := min 8 fsci, rate := 0, block := 0 }
      let v := v.guardPass x.handle (if sfgi = 0 ∨ sfgi = 15 then 0 else 4096 * 2 ^ sfgi)
      if rate = 0 then v.activated x 2 b
      else v.sessNext x fun x => { x with phase := .pps, ats := b, maxRate := rate }

/-- The bits of a cascade level complete: four bytes of UID, then BCC; SELECT follows (07 Table 7-10). -/
def Vexone.takeUid (v : Vexone) (x : Session) (k : Nat) (bits : List Bool) : Vexone :=
  let b := lsbBytes bits
  if bits.length = 40 ∧ b.getD 4 0 = (b.take 4).foldl (fun a y => a ^^^ y) 0 then
    v.sessNext x fun x => { x with phase := .select k, cl := b.take 4, known := [] }
  else v.sessError x

/-- A collision in anticollision: the bits received alike are known, and the search goes on among the passes with 1 at the place
where they differ; with every UID bit known SELECT follows (07 Table 7-10; log entry 112). -/
def Vexone.takeCollision (v : Vexone) (x : Session) (k : Nat) (alike : List Bool) : Vexone :=
  let known := x.known ++ alike ++ [true]
  if known.length < 32 then v.sessNext x fun x => { x with known := known }
  else v.sessNext x fun x => { x with phase := .select k, cl := (lsbBytes known).take 4, known := [] }

/-- The bytes of a UID that a cascade level gives: without its cascade tag where the UID goes on. -/
def uidPart (cl : List Byte) (more : Bool) : List Byte := if more then (cl.take 4).drop 1 else cl.take 4

/-- An ISO-DEP block during an APDU (07 R258). -/
def Vexone.takeBlock (v : Vexone) (x : Session) (b : List Byte) : Vexone :=
  match b with
  | [] => v.sessError x
  | pcb :: inf =>
    let n := pcb.toNat
    let blk := n % 2 == 1
    let sent := match x.phase with | .command k => k | _ => x.cmdLen
    let inCmd := match x.phase with | .command _ => true | _ => false
    if n = 0xF2 then
      let m := (inf.getD 0 0).toNat % 64
      if m = 0 || 59 < m then v.sessError x
      else
        let v := v.modCtx x.handle fun c =>
          { c with wtxCnt := satTo 65535 (c.wtxCnt + 1), wtxm := m, block := c.block ||| 4 }
        (v.modSess x.place fun x =>
          { x with listening := false, toSend := true, wtx := true, wtxm := m }).sendOn x.place
    else if n / 2 = 0x51 then    -- R(ACK)
      if inCmd && blk == x.block && sent + x.chunk < x.cmdLen then
        let v := v.modCtx x.handle fun c =>
          { c with sent := satTo 65535 (sent + x.chunk), wtxm := 0, block := BitVec.ofNat 3 (bit (!x.block) + 2) }
        v.sessNext x fun x => { x with phase := .command (sent + x.chunk), block := !x.block, nak := false }
      else if inCmd && blk != x.block then
        (v.modSess x.place fun x =>
          { x with listening := false, toSend := true, nak := false }).sendOn x.place
      else v.sessError x
    else if n / 2 = 0x01 || n / 2 = 0x09 then    -- I-block, the last or chained
      if blk != x.block || (inCmd && sent + x.chunk < x.cmdLen) then v.sessError x
      else
        let rx := x.rx ++ inf
        let v := v.modCtx x.handle fun c =>
          { c with sent := satTo 65535 x.cmdLen, rcvd := satTo 65535 rx.length, wtxm := 0
                   block := BitVec.ofNat 3 (bit (!x.block) + 2 * bit (n / 2 == 0x09)) }
        if n / 2 = 0x09 then v.sessNext x fun x => { x with phase := .response, rx := rx, block := !x.block, nak := false }
        else
          let cap := match v.opAt x.place with | some o => o.bufLen | none => 0
          v.endSess x 2 (if cap < rx.length then stTruncated else stOk) rx.length (rx.take cap)
    else v.sessError x

/-- A good frame in answer to the session's last frame. -/
def Vexone.takeGood (v : Vexone) (x : Session) (b : List Byte) : Vexone :=
  match x.phase with
  | .wake => v.sessNext x fun x => { x with phase := .request }
  | .anticoll k => v.takeUid x k (x.known ++ lsbBits b)
  | .select k =>
    match b with
    | [sak] =>
      let more := sak.getLsbD 2
      let uid := x.uid ++ uidPart x.cl more
      if more then
        if 3 ≤ k then v.sessError x else v.sessNext x fun x => { x with phase := .anticoll (k + 1), uid := uid, known := [] }
      else
        let x' : Session := { x with uid := uid, sak := sak.toNat }
        let v := v.modCtx x.handle fun c => { c.setIso 1 with rate := 0, identity := identityOf uid sak.toNat }
        if sak.getLsbD 5 then v.sessNext x fun x => { x with phase := .rats, uid := uid, sak := sak.toNat }
        else v.activated x' 1 []
    | _ => v.sessError x
  | .rats => v.takeAts x b
  | .pps =>
    if b = [0xD0] then (v.modCtx x.handle fun c => { c with rate := x.maxRate }).activated x 2 x.ats
    else v.sessError x
  | .command _ | .response => v.takeBlock x b
  | .deselect => if b = [0xC2] then v.endSess x 0 stOk 0 else v.sessError x
  | .request | .over => v.sessError x

/-- An answer to a session's frame. -/
def Vexone.takeAnswer (v : Vexone) (x : Session) (f : IsoFrame) : Vexone :=
  let bad := match f with | .bad _ => true | .collision _ => true | _ => false
  let v := (v.guardPass x.handle 1172).heardOn x.tracks
  let v := v.countSegs x.tracks (if bad then 7 else 6)
  let v := v.modCtx x.handle fun c =>
    { c with lastFrame := v.clk.frame.toNat, rxErr := if bad then satTo 255 (c.rxErr + 1) else c.rxErr }
  match f with
  | .good b => v.takeGood x b
  | .bad _ => v.sessError x
  | .atqa _ => if x.phase = .request then v.sessNext x fun x => { x with phase := .anticoll 1, known := [] } else v.sessError x
  | .uidBits rest =>
    match x.phase with
    | .anticoll k => v.takeUid x k (x.known ++ rest)
    | _ => v.sessError x
  | .collision alike =>
    match x.phase with
    | .request => v.sessNext x fun x => { x with phase := .anticoll 1, known := [] }
    | .anticoll k => v.takeCollision x k alike
    | _ => v.sessError x

/-- Bytes of a frame. -/
def isoBytes : IsoFrame → Nat
  | .atqa _ => 2
  | .collision alike => alike.length / 8
  | .uidBits rest => rest.length / 8
  | .good b => b.length
  | .bad n => n

/-- A late answer (07 R260): discarded, with fault 0x0605 and EV_ISO_LATE. -/
def Vexone.lateAnswer (v : Vexone) (x : Session) (f : IsoFrame) : Vexone :=
  let v := (v.dropSess x.place).modCtx x.handle fun c => { c with late := satTo 255 (c.late + 1) }
  (v.latchRaw 0x0605 (oneHot 16 x.lane.val)).emit 0x0602
    (payload [(2, x.handle.toNat), (2, x.tag.toNat), (2, satTo 65535 (v.clk.ticks - x.expTick)), (2, isoBytes f)])

/-- The tracked handle that a sighting belongs to: in a rack the one at its pocket, the latest by FIRST_FRAME (18 R610), in a
gate image the handle that answers (log entry 5). -/
def Vexone.sightedHandle (v : Vexone) (loc pocket : Nat) (known : Option (BitVec 12)) : Option (BitVec 12) :=
  if v.isRack then
    let ms := v.cx.tab.filter fun e => e.tracked && (match e.ctx with
      | some c => c.loc == loc && c.pocket == pocket
      | none => e.loc == loc && e.pocket == pocket)
    let age := fun (e : HEntry) =>
      (v.clk.frame - BitVec.ofNat 32 (match e.ctx with | some c => c.firstFrame | none => e.first)).toNat
    ((sortKey age ms).head?).map (·.handle)
  else match known with
    | some h => if (v.cx.get h).tracked then some h else none
    | none => none

/-- A sighting on a segment (08 section 8.2; 06 R206, R209). -/
def Vexone.sighted (v : Vexone) (s : SegId) (known : Option (BitVec 12)) : Vexone :=
  let loc := v.locOf s
  let pocket := if v.isRack then v.pocketOf s else 0
  let v := (v.modLane (laneOf s) fun l => { l with cnt := vcount l.cnt 0 }).heardOn (oneHot 16 s.val)
  let h := v.sightedHandle loc pocket known
  let note := fun (v : Vexone) =>
    if v.cx.sight.any (fun (y : Sighting) => y.loc == loc && y.pocket == pocket && y.known == h) ||
        (h.isNone && v.cx.create.any fun (y : Sighting) => y.loc == loc && y.pocket == pocket) then v
    else v.modCx fun x => { x with sight := x.sight ++ [{ loc := loc, pocket := pocket, known := h }] }
  match h with
  | some h => if (v.cx.get h).resident then note (v.modCtx h fun c => { c with lastFrame := v.clk.frame.toNat }) else v.demandOf h loc pocket
  | none => note v

/-- A REQA of an ISO_SLOT is being answered on a segment. -/
def Vexone.inIsoSlot (v : Vexone) (s : SegId) (edge : Nat) : Bool :=
  v.segs[s].phase == .carrying &&
  (v.entriesOf v.sch.run).any fun e =>
    e.kind == 0 && e.code == 0x0102 && e.tracks.getLsbD s.val && decide (e.start ≤ edge ∧ edge < e.start + e.dur)

/-! ## Sessions ended by the field -/

/-- At edge 200,000 a session ends whose pair has no segment unfurled and free of latched faults (07 R265; 05 R194). -/
def Vexone.judgeSessions (v : Vexone) : Vexone :=
  v.sess.foldl (fun v x =>
    if x.phase = .over || (segsOf x.tracks).any (fun s => v.segs[s].live && (v.segLatched s.val).isNone) then v
    else v.endSess x 3 stFieldFault 0) v

/-- At the tick that selects the egress template every session ends (07 R268; 05 R191). -/
def Vexone.egressSessions (v : Vexone) : Vexone :=
  let v := v.sess.foldl (fun v x => if x.phase = .over then v else v.endSess x 3 stEgress 0) v
  { v with sess := [] }

end Sys2Proof.Machine
end

