-- ==== Sys2Proof/Machine/Racks.lean ====
section
/-! DEFINITION. Conditioning racks (spec 18): pocket selection, the conveyor and its guarded pockets; and the ordinary lane
inputs (04 R147). -/

namespace Sys2Proof.Machine

open Sys2Proof

/-! ## Guarded pockets (18 R618, R628) -/

/-- The bindings of a segment lose this frame's service. -/
def Vexone.lapse (v : Vexone) (s : SegId) : Vexone := (v.darken s).loseBinding s

/-- Every segment whose latched pocket is not clear stops and stays dark; the others are free again. -/
def Vexone.guardPockets (v : Vexone) : Vexone :=
  (List.finRange 16).foldl (fun v s =>
    let bad := v.isRack && !v.pocketClear (v.pocketOf s)
    let v := if bad && v.segs[s].live then v.lapse s else v
    v.modSeg s fun x => { x with guarded := bad }) v

/-! ## POCKET_SEL (18 R607, R608) -/

/-- The selection of a pocket on one segment by an activity that starts at an edge. -/
def Vexone.selectPocket (v : Vexone) (s : SegId) (start pocket : Nat) : Vexone :=
  if !v.segs[s].live then v
  else if !v.pocketClear pocket then
    let v := (v.lapse s).modSeg s fun x => { x with skipped := true }
    { v with rack := { v.rack with nSkip := satTo 65535 (v.rack.nSkip + 1) } }
  else
    let f := max (v.clk.t0 + start + 80) v.rack.frameEnd
    let old := v.pocketOf s
    let v := (v.darken s).modSeg s fun x => { x with pocket := old, sel := some (f, pocket), skipped := false, guarded := false }
    ({ v with rack := { v.rack with frameEnd := f + 24 } } : Vexone).put (.pocket f s pocket)

/-! ## The conveyor (18 R615 to R617) -/

/-- EV_CONVEYOR (18 R623). -/
def Vexone.conveyorEvent (v : Vexone) (kind : Nat) : Vexone :=
  let ago := match v.rack.tQual with | some t => v.now - t | none => 0xFFFFFFFF
  v.emit 0x0902 (payload [(1, kind), (1, v.rack.k), (1, v.rack.q), (1, bit v.rack.certain), (4, satTo 0xFFFFFFFF ago)])

def Vexone.modRack (v : Vexone) (f : Rack → Rack) : Vexone := { v with rack := f v.rack }

/-- The column that one step leads to, as LIN2 stands. -/
def Vexone.nextColumn (v : Vexone) : Nat :=
  let n := v.pockets
  if v.lin.getLsbD 2 then (v.rack.k + 1) % n else (v.rack.k + n - 1) % n

/-- The window of the next tooth (12 R431; 18 R616). -/
def Rack.window (r : Rack) : Option (Nat × Nat) :=
  match r.tLast with
  | some t => if 2 ≤ r.teeth then some (t + 3 * r.interval / 4, t + ceilDiv (5 * r.interval) 4) else none
  | none => none

/-- A qualified tooth. -/
def Vexone.goodTooth (v : Vexone) : Vexone :=
  let k := v.nextColumn
  let was := v.rack.extra && v.rack.sure
  let v := v.modRack fun r =>
    { r with k := k, teeth := r.teeth + 1, interval := match r.tLast with | some t => v.now - t | none => 0
             tLast := some v.now, tQual := some v.now, extra := false, certain := r.certain || was
             nQual := satTo 65535 (r.nQual + 1) }
  (if was then v.conveyorEvent 2 else v).guardPockets

/-- A rejected tooth. -/
def Vexone.strayTooth (v : Vexone) (unsure : Bool) : Vexone :=
  let v := v.modRack fun r => { r with nRej := satTo 65535 (r.nRej + 1), certain := r.certain && !unsure }
  (v.conveyorEvent 4).guardPockets

/-- A declared input with no meaning of the conveyor's (18 R615). -/
def Vexone.ordinaryInput (v : Vexone) (n : Fin 16) : Bool :=
  (v.decl.any fun d => d.lins.getLsbD n.val) && !(v.conveyor && decide (n.val < 4))

/-- A lane input at a level: a change of an ordinary one is an event (04 R147). -/
def Vexone.setLin (v : Vexone) (n : Fin 16) (level : Bool) : Vexone :=
  if v.lin.getLsbD n.val = level then v
  else
    let v : Vexone := { v with lin := if level then v.lin ||| oneHot 16 n.val else v.lin &&& ~~~(oneHot 16 n.val) }
    if v.ordinaryInput n then v.emit 0x0104 (payload [(1, n.val), (1, bit level)]) else v

/-! ## The tick (18 R606, R613) -/

/-- Q advances at a tick that opens a frame f with f mod SEQ_LEN = 0. -/
def Vexone.tickRotation (v : Vexone) : Vexone :=
  match v.active with
  | some im =>
    if v.isRack && v.clk.frame.toNat % im.seq.length == 0 then v.modRack fun r => { r with q := (r.q + 1) % v.pockets } else v
  | none => v

/-- A visit of a pocket ends or begins: the ISO sessions of its passes are idle (18 R620). -/
def Vexone.turnPocket (v : Vexone) (s : SegId) (pocket : Nat) : Vexone :=
  v.modCx fun x => { x with tab := x.tab.map fun (e : HEntry) =>
    if e.tracked && e.loc == s.val && e.pocket == pocket then
      { e with visitAt := v.clk.ticks, ctx := e.ctx.map (·.setIso 0) }
    else e }

/-- The other pockets that the POCKET_SELs of this frame are to latch on a segment. -/
def Vexone.nextPockets (v : Vexone) (s : SegId) : List Nat :=
  if !v.segs[s].live then []
  else (((v.entriesOf v.sch.run).filter fun e => e.kind == 0 && e.code == 0x0105 && e.tracks.getLsbD s.val).map fun e =>
    (e.param + v.rack.q) % v.pockets).filter fun p => p != v.pocketOf s && v.pocketClear p

/-- At the tick of a frame whose POCKET_SEL is to latch another pocket, the tags of the pocket left are released, and the
passes of both have their ISO sessions idle (18 R613, R620). -/
def Vexone.tickTags (v : Vexone) : Vexone :=
  if !v.isRack then v
  else (List.finRange 16).foldl (fun v s =>
    let next := v.nextPockets s
    if next.isEmpty then v
    else
      let v := (v.segs[s].tags.toList.filterMap (·.handle)).foldl (fun v h => v.releaseTag h) v
      (v.pocketOf s :: next).foldl (fun v p => v.turnPocket s p) v) v

/-- The rack's part of a frame's end. -/
def Vexone.countUncertain (v : Vexone) : Vexone :=
  if v.conveyor && !v.rack.certain then v.modRack fun r => { r with nUncert := satTo 65535 (r.nUncert + 1) } else v

/-- The rack bench record (18 R624). -/
def Vexone.rackRecord (v : Vexone) : TeleRec :=
  let r := v.rack
  { kind := 0x0601, bench := 0, inexact := false
    payload := padTo 52 (le 1 r.q ++ le 1 r.k ++ le 1 (bit r.certain + 2 * bit r.homed + 4 * bit v.conveyor) ++ le 1 0 ++
      [r.nQual, r.nRej, r.nExtra, r.nSkip, r.nMis, r.nUncert].flatMap (le 2)) }

def Rack.newBench (r : Rack) : Rack :=
  { r with nQual := 0, nRej := 0, nExtra := 0, nSkip := 0, nMis := 0, nUncert := 0 }

end Sys2Proof.Machine
end

