-- ==== Sys2Proof/Machine/Tick.lean ====
section
/-! DEFINITION. The frame boundary (01 R25 to R29, Table 1-6): what latches at a tick, the settings that operations left, the
template of the new frame (02 R78 to R80), the bench (04 R146), the activation of egress (13 R478) and of an image (02 R76);
and edge 200,000. -/

namespace Sys2Proof.Machine

open Sys2Proof

/-! ## Shadowed registers (01 R26; 17 R577) -/

/-- The value that a latch gives a register: each field in its range takes what was written, another keeps what is in force;
whether one was refused is told as well. -/
def Vexone.latchValue (v : Vexone) (a : Nat) : Word × Bool :=
  let w := v.written a
  (setupFields a).foldl (fun (x : Word × Bool) g =>
    if g.min ≤ fld w g.hi g.lo ∧ fld w g.hi g.lo ≤ g.max then ((x.1 &&& ~~~g.mask) ||| (w &&& g.mask), x.2)
    else (x.1, true)) (v.force a, false)

/-- A register latched; whether one of its fields was refused. -/
def Vexone.latchReg (v : Vexone) (a : Nat) : Vexone × Bool :=
  let (w, bad) := v.latchValue a
  ((v.setForce a w).unmarkFresh a, bad)

/-- The unit of a stage or motor register. -/
def railAt (a : Nat) : RailId := if a < 0x0820 then .fb else .ax

def motorAt (a : Nat) : MotorId := Fin.ofNat 4 ((a - 0x0840) / 16)

/-- Whether the latch condition of 17 Table 17-2 holds for a register that latches by itself. -/
def Vexone.mayLatch (v : Vexone) (a : Nat) : Bool :=
  if 0x0800 ≤ a && a < 0x0840 then
    let st := (v.rail (railAt a)).st
    st == .off || st == .latched || st == .otShut
  else if 0x0840 ≤ a && a < 0x0880 then
    let st := v.motors[motorAt a].st
    st == .disabled || st == .hold || st == .faultOff
  else a == 0x08C0 || a == 0x08D0 || a == 0x08E0

/-- The fault of a field refused at the latch (11 R380, 12 R417, R437, 13 R462). -/
def Vexone.refuseField (v : Vexone) (a : Nat) : Vexone :=
  if a < 0x0840 then
    v.latchEv 0x0808 (oneHot 16 (railAt a).num) 0x0801 (v.railPayload (railAt a) 0x0808 0xFF 0)
  else if a < 0x0880 then v.motorFault (motorAt a) 0x0909
  else if a = 0x08C0 then v.latchEv 0x0909 (oneHot 16 4) 0x0901 (v.busPayload 0x0909 1)
  else if a = 0x08D0 then v.resFaultEv 0x0A07 1 0
  else v

/-- The registers of the stages, the motors, the chopper, the reservoir and MAINS_CTL whose condition holds latch. -/
def Vexone.latchUnits (v : Vexone) : Vexone :=
  (v.regs.fresh.filter v.mayLatch).foldl (fun v a =>
    let (v, bad) := v.latchReg a
    if bad then v.refuseField a else v) v

/-- The addresses of the egress plan (12 R441). -/
def planRegs : List Nat := (List.range 9).map fun k => 0x0880 + 4 * k

/-- The checks of 12 R441 on the plan as written, and the ranges of its fields. -/
def Vexone.planOk (v : Vexone) : Bool :=
  let w := v.written
  let order := fld (w 0x0880) 7 0
  let stagger := fld (w 0x0880) 15 8
  let vmax := fun (n : Nat) => fld (w (0x0884 + 8 * n)) 31 16
  let acc := fun (n : Nat) => fld (w (0x0888 + 8 * n)) 15 0
  (List.range 4).all (fun l => (List.range 4).any fun k => bitsOf order (2 * k + 1) (2 * k) == l) &&
  (List.finRange 4).all (fun n => decide (fld (w (0x0884 + 8 * n.val)) 15 0 ≤ v.openMax n)) &&
  decide (1 ≤ stagger) && (List.range 4).all (fun n => decide (1 ≤ vmax n ∧ 1 ≤ acc n)) &&
  (onesOf v.declMotors).all fun n => decide (ceilDiv (vmax n) (acc n) + 1 ≤ stagger)

/-- The egress plan latches whole while the sequencer is inactive; a plan that fails a check is spent (12 R441, R453). -/
def Vexone.latchPlan (v : Vexone) : Vexone :=
  if v.eg.active || !(planRegs.any v.regs.fresh.contains) then v
  else
    let ok := v.planOk
    let v := planRegs.foldl (fun (v : Vexone) a => (if ok then v.setForce a (v.written a) else v).unmarkFresh a) v
    if ok then v else v.latchF 0x0907 0

/-- BANK latches while every segment is furled (08 R274; 17 R602). -/
def Vexone.latchBank (v : Vexone) : Vexone :=
  if v.regs.fresh.contains 0x0010 && v.unfurled == 0 then (v.latchReg 0x0010).1 else v

/-! ### Rings (04 R117, R118) -/

/-- The geometry in force allows an enable; M2's is fixed (04 R115, R119). -/
def Vexone.geometryOk (v : Vexone) (m : Master) (r : Fin 10) : Bool :=
  m == .m2 || (v.ringBase m.idx r != 0 && v.ringBase m.idx r % 4096 == 0 &&
    decide (16 ≤ v.ringSize m.idx r ∧ v.ringSize m.idx r ≤ 4096))

/-- A ring that becomes enabled starts at index 0; an event or telemetry ring numbers its records from 0 (04 R117, R145). -/
def Vexone.enableRing (v : Vexone) (m : Master) (r : Fin 10) : Vexone :=
  let v := v.modRing m r fun x =>
    { x with dev := 0, host := 0, bell := none, halted := false, gen := x.gen + 1, fetched := 0, decEnd := 0 }
  v.modMst m fun x =>
    if r = 8 then { x with evSeq := 0 } else if r = 9 then { x with teleSeq := 0, teleDropped := 0 } else x

/-- A ring that becomes disabled loses an unserved doorbell, and its waiting events or telemetry (04 R118). -/
def Vexone.disableRing (v : Vexone) (m : Master) (r : Fin 10) : Vexone :=
  let v := v.modRing m r fun x => { x with bell := none }
  v.modMst m fun x =>
    if r = 8 then { x with events := [], marker := none } else if r = 9 then { x with tele := [] } else x

/-- ENABLE and VECTOR of a ring latch; a refused ENABLE is spent and cleared (04 R117). -/
def Vexone.latchRing (v : Vexone) (m : Master) (r : Fin 10) : Vexone :=
  let a := ringAddr m.idx r + 0x0C
  if !(v.regs.fresh.contains a) then v
  else
    let w := v.written a
    let was := v.ringOn m.idx r
    let v := v.unmarkFresh a
    if fld w 31 31 = 1 then
      if was then v.setForce a w
      else if v.geometryOk m r then (v.setForce a w).enableRing m r
      else
        let off := w &&& 0x7FFFFFFF
        ((v.setWritten a off).setForce a off).ringFault 0x0401 m r
    else
      let v := v.setForce a w
      if was then v.disableRing m r else v

def Vexone.latchRings (v : Vexone) : Vexone :=
  masters.foldl (fun v m => (List.finRange 10).foldl (fun v r => v.latchRing m r) v) v

/-! ## Settings of operations (05 R168) -/

/-- An UNFURL in force makes its furled segments dark, and those that a cleared short left in fault-off (07 R229, R249); what voids it before has taken it from the settings (05 R188). -/
def Vexone.tickUnfurl (v : Vexone) (m : BitVec 16) : Vexone :=
  v.forSegs m fun v s => v.modSeg s fun x =>
    if x.phase = .furled ∨ x.phase = .faultOff then { x.still with phase := .dark, fresh := true } else x

/-- RAIL_ON in force: off or in OT shutdown, the rail waits for its start edge (11 Table 11-3). -/
def Vexone.tickRailOn (v : Vexone) (r : RailId) (delay : Nat) : Vexone :=
  v.modRail r fun x =>
    if x.st = .off ∨ x.st = .otShut then { x with st := .delay, delayTo := v.now + slotLen * delay } else x

/-- RAIL_OFF in force: a rail in delay is off at once; one that ramps up or is on ramps down after the delay. -/
def Vexone.tickRailOff (v : Vexone) (r : RailId) (delay : Nat) : Vexone :=
  match (v.rail r).st with
  | .delay => v.modRail r fun x => x.stopped .off
  | .rampUp | .on =>
    if delay = 0 then v.railDown r
    else v.modRail r fun x => { x with offPend := true, delayTo := v.now + slotLen * delay }
  | _ => v

/-- RAIL_RESTART in force: as from delay with DELAY 0 (11 Table 11-3). -/
def Vexone.tickRailRestart (v : Vexone) (r : RailId) : Vexone :=
  v.modRail r fun x => if x.st = .latched then { x with st := .delay, delayTo := v.now } else x

/-- RAIL_SYNC in force: a change glides; SYNC_IN outside its range is not followed (11 R397, R398). -/
def Vexone.tickRailSync (v : Vexone) (r : RailId) (en : Bool) (fsw : Nat) : Vexone :=
  let x := v.rail r
  if x.syncEn = en ∧ x.fsw = fsw then v
  else
    let v := (v.glide r).modRail r fun x => { x with syncEn := en, fsw := fsw }
    if en && !x.syncEn && v.clk.syncOut then
      v.latchEv 0x0808 (oneHot 16 r.num) 0x0801 (v.railPayload r 0x0808 0xFF 0)
    else v

/-- MOTOR_BRAKE in force: a motor of the egress set is left (05 R191). -/
def Vexone.tickMotorBrake (v : Vexone) (n : MotorId) : Vexone :=
  if (v.egLane n).isSome then v else v.brake n stCancelled

/-- The setting of an operation in force; a revocation changes the OTP as well. -/
def Vexone.applySetting (v : Vexone) (d : Due) : Vexone :=
  match d.set with
  | .unfurl m => v.tickUnfurl m
  | .furl m => v.forSegs m Vexone.furl
  | .reef l k => v.modLane l fun x => { x with level := k }
  | .legDrive s src snk dead => v.modSeg s fun x => { x with src := src, snk := snk, dead := dead }
  | .sessLimits l t r => v.modLane l fun x => { x with timeout := t, retries := r }
  | .energyCap h c => v.modCtx h fun x => { x with cap := c }
  | .railOn r k => v.tickRailOn r k
  | .railOff r k => v.tickRailOff r k
  | .railRestart r => v.tickRailRestart r
  | .railSync r en f => v.tickRailSync r en f
  | .chgSet i c => { v with res := { v.res with ichg := i, vcell := c } }
  | .chgOn => v.tickChgOn
  | .chgOff => v.chgStop
  | .balSet en t => { v with res := { v.res with balEn := en, balTh := t } }
  | .motorEnable n en => v.tickMotorEnable n en
  | .motorDrive n src dead => v.modMotor n fun x => { x with src := src, dead := dead }
  | .flapMove n pos vmax acc => v.tickFlapMove d.place n pos vmax acc
  | .motorBrake n => v.tickMotorBrake n
  | .motorRelease n => v.tickRelease n
  | .chopperSet en => v.tickChopper en
  -- DESIGN CHOICE: EGRESS_ARM adds its lanes to those armed (log entry 123).
  | .egressArm m => { v with eg := { v.eg with armed := v.eg.armed ||| m } }
  | .egressDisarm => { v with eg := { v.eg with armed := 0 } }
  | .fanMode c k y m => v.tickFanMode c k y m
  | .fanHyst c h => v.modFan c fun f => { f with hyst := h }
  | .fanTach c l t => v.modFan c fun f => { f with limit := l, time := t }
  | .fanWdog l => v.tickFanWdog l
  | .fanRestore => v.tickFanRestore
  | .thermSet n b => { v with th := { v.th with ins := vmod v.th.ins n fun x => { x with beta := b } } }
  | .cxPin h => v.tickPin h
  | .cxUnpin h => v.tickUnpin h
  | .cxKey h k i => v.tickKey h k i
  | .cxRetire h => v.tickRetire d h
  | .spoilSet b m => v.modCx fun x => { x with spoil := some (b, m) }
  | .keyRevoke _ => v
  | .faultClear n => v.tickFaultClear n
  | .quiet => { v with sch := { v.sch with quietSel := true } }
  | .resume => { v with sch := { v.sch with quietSel := false } }
  | .frameResync => v.tickResync

/-- An EGRESS_ARM pending at a tick with the sequencer active waits until it is inactive (12 R453). -/
def Vexone.waits (v : Vexone) (d : Due) : Bool :=
  match d.set with
  | .egressArm _ => v.eg.active
  | _ => false

/-- The settings of the frame that ended, in the order of execution. -/
def Vexone.applyAll (v : Vexone) : Vexone :=
  let keep := v.due.filter v.waits
  let act := v.due.filter fun d => !v.waits d
  act.foldl Vexone.applySetting { v with due := keep }

/-- Revocations that the tick brings into effect. -/
def State.applyRevokes (s : State) : State :=
  (s.vx.due.filterMap fun d => match d.set with | .keyRevoke k => some k | _ => none).foldl State.tickKeyRevoke s

/-! ## Egress becoming active (12 R442, R443; 13 R478, R485, R487) -/

/-- Lanes that join the plan at this tick; with the sequencer inactive it becomes active, which cancels a pending swap
(02 R81), voids an offer (03 R109) and ends the sessions (05 R191). -/
def Vexone.egressJoin (v : Vexone) (lanes : BitVec 4) (cause : Nat) : Vexone :=
  if lanes = 0 then v
  else if v.eg.active then (v.joinPlan lanes).joinMotors lanes
  else
    let v : Vexone := { v with eg := { v.eg with active := true, plan := [], atTick := v.clk.ticks, eFrame := v.clk.frame
                                                 cause := cause, stopDue := false } }
    let v := (v.joinPlan lanes).joinMotors lanes
    let v := v.emit 0x0B02 (payload [(1, cause), (1, v.eg.lanes.toNat), (4, v.eg.eFrame.toNat), (1, 0)])
    ((v.endSwap stImageRefused 6).egressVoidsOffer).egressSessions

/-- The lanes judged in the frame that ended join. -/
def Vexone.tickEgress (v : Vexone) : Vexone :=
  let lanes := v.eg.judged
  ({ v with eg := { v.eg with judged := 0 } } : Vexone).egressJoin lanes v.eg.cause

/-- EGRESS_ARM in force while the mains is absent activates the sequencer for the newly armed lanes (13 R487). -/
def Vexone.tickArm (v : Vexone) (before : BitVec 4) : Vexone :=
  let new := v.eg.armed &&& ~~~before
  if v.eg.active || !v.mainsAbsent || new == 0 then v
  else
    let v := (v.judgeEgress new 1).1
    let v : Vexone := { v with mains := { v.mains with cnt := vcount v.mains.cnt 6 } }
    v.tickEgress

/-- The sequencer is to stop at this tick: every lane of the plan was done (13 R479). -/
def Vexone.judgeStop (v : Vexone) : Vexone :=
  { v with eg := { v.eg with
      stopDue := v.eg.active && v.eg.judged == 0 && !v.eg.plan.isEmpty && v.eg.plan.all (·.done) } }

/-! ## The template of the new frame (02 R78 to R80; 07 R239) -/

/-- A pending swap takes effect at this tick (02 R76). -/
def Vexone.swapDue (v : Vexone) : Bool :=
  v.img.swap.any fun w => v.clk.frame.toNat % 64 == 0 && benchOf v.clk.frame == w.bench

/-- The template that this frame runs. -/
def Vexone.selection (v : Vexone) : Running :=
  if v.active.isNone then .harbour
  else if v.eg.active then .egress
  else if v.sch.quietSel then .quiet
  else .ordinary v.sch.next

/-- The cleat of a template that carries on a binding made against another entry (02 R80). -/
def carriesOn (es : List Entry) (e : Entry) : Option Nat :=
  es.findIdx? fun x => x.kind == 1 && x.cls == e.cls && x.engines == e.engines && x.slot == e.slot &&
    e.tracks &&& ~~~x.tracks == 0 && decide (e.dur ≤ x.dur)

/-- A binding under the selected template; none where it is released, its partner with it. -/
def Binding.under (b : Binding) (old new : List Entry) : Option Binding :=
  match old[b.first]?, old[b.second]? with
  | some x, some y =>
    match carriesOn new x, carriesOn new y with
    | some i, some j => some { b with first := i, second := j }
    | _, _ => none
  | _, _ => none

/-- The frame opens: its template is selected, the bindings made for it are kept or released, the carrier vectors chosen
take effect, and under the egress and the quiet template every segment that carries stops. -/
def Vexone.openFrame (v : Vexone) : Vexone :=
  let run := v.selection
  let keep := v.sch.nbind.filterMap fun b => b.under v.sch.made (v.entriesOf run)
  let gone := v.sch.nbind.filter fun b => !(keep.any fun k => k.handle == b.handle)
  let old := v.sch.bind
  let v : Vexone := { v with sch := { v.sch with run := run, bind := keep, nbind := [], used := []
                                                 pauses := gone.map (·.handle) } }
  let dark := run == .egress || run == .quiet
  let v := if dark then v.lapseAll else gone.foldl (fun v b => v.lapseCopies b.handle) v
  let v := (v.newRuns old).tickCarriers
  let v : Vexone := { v with busCap := v.fbCap }
  let v := if dark then v.forSegs 0xFFFF Vexone.darken else v
  v.tickTags.guardPockets

/-! ## The bench (04 R146; 06 R219; 08 R300; 18 R624) -/

/-- A snapshot of records for one master: none where its telemetry ring is disabled, dropped where it has not drained the
last one. -/
def Vexone.queueBench (v : Vexone) (recs : List TeleRec) (m : Master) : Vexone :=
  if !(v.ringOn m.idx 9) then v
  else if (v.mst m).tele.isEmpty then v.modMst m fun x => { x with tele := recs }
  else
    let firstDrop := (v.mst m).teleDropped = 0
    let v := v.modMst m fun x =>
      { x with teleDropped := x.teleDropped + recs.length
               rings := vmodN x.rings 9 fun r => { r with drops := satTo 65535 (r.drops + recs.length) } }
    let v := v.heat (ringAddr m.idx 9 + 0x14) recs.length
    if firstDrop then v.latchF 0x0407 m.idx else v

/-- The bench that ended closes: pass records, the rack record, the store summary. -/
def Vexone.closeBench (v : Vexone) (bench : Nat) : Vexone :=
  let recs := (v.passRecords ++ (if v.isRack then [v.rackRecord] else []) ++ [v.cx.summary]).map fun (r : TeleRec) =>
    { r with bench := bench, inexact := v.clk.inexact }
  let v := masters.foldl (fun v m => v.queueBench recs m) v
  let v := v.modCx fun x => { x.newBench with loops := (x.loops.filter v.keepsLoop).map LoopRec.newBench }
  let v : Vexone := { v with segs := v.segs.map fun (s : Seg) => { s with meter := s.meter.endBench } }
  v.modRack Rack.newBench

/-! ## The tick -/

/-- The frame that ends is closed (08 R283; 18 R624). -/
def Vexone.endFrame (v : Vexone) : Vexone := v.closeLedgers.countUncertain

/-- Time passes into the next frame: the frame number, the counters and the flags of Table 1-6. -/
def Vexone.advance (v : Vexone) : Vexone :=
  let cnt := vcount (vcount v.dcnt 0) 1 (bit v.clk.backup)
  { v with
    clk := { v.clk with frame := v.nextFrame, edge := 0, t0 := v.clk.t0 + ((frameLen : Int) + v.fr.jump).toNat,
                        ticks := v.clk.ticks + 1, inexact := v.clk.inexact || v.clk.inexactNext, inexactNext := false }
    dcnt := cnt
    mains := { v.mains with cnt := vcount v.mains.cnt 5 (bit v.mainsAbsent) }
    res := { v.res with cnt := vcount v.res.cnt 6 (bit v.absorbing) } }

/-- What begins anew in each frame: the entries' holds, the flags of a rail's last frame. -/
def Vexone.freshFrame (v : Vexone) : Vexone :=
  let rail := fun (x : Rail) =>
    { x with truncNow := x.trunc.any (· + 1 == v.clk.ticks) }
  { v with segs := v.segs.map fun (s : Seg) => { s with holdTo := 0, inP := false }
           fb := rail v.fb
           ax := rail v.ax }

/-- What takes effect at a tick before the template: registers, pairs, settings, egress. -/
def State.latchAll (s : State) : State :=
  let v := s.vx.tickEgress.latchUnits.tickPairs.latchRings.latchPlan
  let armed := v.eg.armed
  let s := ({ s with vx := v } : State).applyRevokes
  { s with vx := (s.vx.applyAll.latchBank.tickArm armed) }

/-- What the mirrors go on showing up to edge 8 (01 R27, 17 R598); ring values that a port reset left on show end with it (17
R600). -/
def Vexone.keepShown (v : Vexone) : Vexone :=
  { v with regs := { v.regs with stale := [] }
           shown := some { regs := v.regs, segs := v.segs, lanes := v.lanes, fb := v.fb, ax := v.ax, motors := v.motors
                           mbus := v.mbus, eg := v.eg, quietSel := v.sch.quietSel, res := v.res, mains := v.mains
                           th := v.th, fans := v.fans, fwd := v.fwd } }

/-- The work of every tick after time has advanced. -/
def State.tickWork (s : State) : State :=
  let v := s.vx.keepShown
  let v := if v.clk.frame.toNat % 64 = 0 && v.clk.ticks != 0 then v.closeBench ((benchOf v.clk.frame + 2 ^ 26 - 1) % 2 ^ 26)
           else v
  let v := v.freshFrame.halCount.fanCount.tickLoad.tickEligible.judgeStop
  let s := ({ s with vx := v } : State).latchAll
  let held := s.vx.res.hold
  let v := s.vx.handover.tickFollower.tickHold.tickStack
  let v := if held && !v.res.hold then v.fanResume else v
  let v := v.tickAbandon
  { s with vx := if v.swapDue then v else v.tickRotation.openFrame }

/-! ## The swap (02 R76, R80, R84; 12 R455; 14 R515; 18 R606, R616) -/

/-- A fan that the new image does not declare: high-impedance, its forced state ended. -/
def Vexone.dropFans (v : Vexone) : Vexone :=
  (List.finRange 4).foldl (fun v c =>
    if v.declFans.getLsbD c.val then v else (v.setPin c .hiZ 0).modFan c fun f => { f with forced := 0 }) v

/-! ## Edge 200,000 (01 Table 1-6) -/

/-- The image that the next tick runs: the standby one where a swap is due then. -/
def Vexone.nextImage (v : Vexone) : Option Image :=
  let f := v.clk.frame + 1
  if v.img.swap.any (fun w => f.toNat % 64 == 0 && benchOf f == w.bench) then v.img.standby.image else v.active

/-- Session operations whose context is resident here have met the store within their 64 frames (05 R165). -/
def Vexone.noteContexts (v : Vexone) : Vexone :=
  { v with ops := v.ops.map fun o =>
      if o.cls == .p && o.phase == .admitted && (v.cx.get o.handle).resident then { o with hadCtx := true } else o }

end Sys2Proof.Machine
end

