-- ==== Sys2Proof/Machine/Queries.lean ====
section
/-! DEFINITION. The query operations (05 section 5.11): the state records and counters of the units, and the latched faults,
ledgers, contexts and image stores. -/

namespace Sys2Proof.Machine

open Sys2Proof

/-! ## State records -/

/-- 32-bit counters as a result (05 R187). -/
def counters {n : Nat} (c : Vector Nat n) : List Byte := c.toList.flatMap (le 4 ·)

/-- The segment record (07 Table 7-12). -/
def Vexone.segRecord (v : Vexone) (s : SegId) : List Byte :=
  let x := v.segs[s]
  padTo 16 (le 1 (x.code v.clk.edge) ++ le 1 v.lanes[laneOf s].level.val ++ le 1 (if x.runs then x.p else 0) ++ le 1 (if x.runs then x.s else 0) ++
    le 1 (bit x.bstA + 2 * bit x.bstB) ++ le 1 (x.src + 16 * x.snk) ++ le 1 x.dead ++ le 1 0 ++
    le 2 ((v.segLatched s.val).getD 0) ++ le 1 x.shTh ++ le 1 x.shDl ++ le 1 x.opTh ++ le 1 x.opDl ++
    le 2 (if x.runs then 0 else satTo 65535 (v.clk.ticks - x.refreshAt)))

/-- A rail within 3 percent, or 30 mV, of its reference as last measured (11 R388). -/
def Rail.regulated (x : Rail) : Bool :=
  x.switching && decide (dist (4 * x.vout) x.ref ≤ max (3 * x.ref / 100) 120)

/-- FLAGS of the rail record (11 Table 11-6). -/
def Vexone.railFlags (v : Vexone) (r : RailId) : Nat :=
  let x := v.rail r
  pack [(bit x.slewAt.isSome, 0), (bit x.regulated, 1), (bit (x.switching && Config.dropout x.ref x.vout), 2),
        (bit (v.syncLocked r), 3), (bit (v.gliding r), 4), (bit x.truncNow, 5), (bit (v.latched 0x0803 r.num), 6)]

/-- The duty trims, one signed byte a phase; those of phases not used are 0. -/
def Vexone.trims (v : Vexone) (r : RailId) : List Byte :=
  (List.finRange 4).flatMap fun p => le 1 (if (v.phases r).contains p then twos 8 ((v.rail r).trim[p]) else 0)

/-- The rail record (11 Table 11-6). -/
def Vexone.railRecord (v : Vexone) (r : RailId) : List Byte :=
  let x := v.rail r
  le 1 x.st.code ++ le 1 (v.railFlags r) ++ le 2 x.tgt ++ le 2 x.eff ++ le 2 x.aSlew ++ le 2 (x.ref / 4) ++ le 2 x.vout ++
    v.trims r

/-- The motion faults that a motor's record shows (12 Table 12-6). -/
def motionCodes : List Nat := [0x0901, 0x0902, 0x0903, 0x0904, 0x0906, 0x0908, 0x090A]

/-- The motor record (12 Table 12-6). -/
def Vexone.motorRecord (v : Vexone) (n : MotorId) : List Byte :=
  let x := v.motors[n]
  le 1 x.st.code ++ le 1 (v.motorFlags n) ++ le 2 (twos 16 x.pos) ++ le 2 (x.move.map (·.pos) |>.getD 0) ++
    le 2 (satTo 65535 (v.vel n)) ++ le 2 (twos 16 x.duty) ++ le 1 x.hall.toNat ++ le 1 x.src ++ le 1 x.dead ++ le 1 0 ++
    le 2 ((v.firstLatched motionCodes n.val).getD 0)

/-- The motor-bus record (12 R445). -/
def Vexone.busRecord (v : Vexone) : List Byte :=
  padTo 16 (le 2 v.mbus.vbus ++ le 1 v.mbus.thr ++ le 1 v.mbus.dly ++ le 2 (v.regenLevels.1 / 100) ++ le 2 v.vOn ++ le 2 v.vOff ++
    le 1 (bit v.mbus.chop + 2 * bit v.mbus.forced + 4 * bit v.mbus.regen))

/-- The chopper's on-time in us and the count of over-voltage faults (12 R445). -/
def Vexone.busCounters (v : Vexone) : List Byte :=
  let on := v.mbus.chopOn + if v.mbus.chop then v.now - v.mbus.chopAt else 0
  le 4 (satTo 0xFFFFFFFF (on * 100 / 21696)) ++ le 4 v.mbus.ovCount

/-- The temperature record (14 R507). -/
def Vexone.tempRecord (v : Vexone) : List Byte :=
  padTo 32 ((List.finRange 8).flatMap (fun n => le 2 (twos 16 v.th.ins[n].t8)) ++
    v.th.die.toList.flatMap (fun t => le 2 (twos 16 t)) ++
    le 2 ((List.finRange 8).foldl (fun a n => a + bit v.th.ins[n].faulted <<< n.val) 0))

/-- Tags in use on a lane (08 R272). -/
def Vexone.tagsUsed (v : Vexone) (l : LaneId) : Nat :=
  let n := fun (ts : Vector Tag 16) => (ts.toList.filter fun t => t.handle.isSome).length
  if v.isRack then ((segsOf (laneSegs l.val)).map fun s => n v.segs[s].tags).sum else n v.lanes[l].tags

/-- The lane record (05 Table 5-13). -/
def Vexone.laneRecord (v : Vexone) (l : LaneId) : List Byte :=
  let x := v.lanes[l]
  let four := (List.range 4).map fun k => (Fin.ofNat 16 (4 * l.val + k) : SegId)
  let segs := four.mapIdx fun k s => bit v.segs[s].live <<< k + bit (v.segLatched s.val).isSome <<< (k + 4)
  let bound := v.sch.bind.filter (·.lane == l)
  let iso := (v.sess.find? fun y => y.lane == l && y.phase != .over)
  padTo 16 (le 1 x.level.val ++ le 1 segs.sum ++ le 2 (v.laneBudget l) ++ le 2 (satTo 65535 (bound.map (·.grant)).sum) ++
    le 1 (satTo 255 bound.length) ++ le 1 (satTo 255 (v.tagsUsed l)) ++ le 2 x.timeout ++ le 1 x.retries ++
    le 1 (bit (v.eg.armed.getLsbD l.val) + 2 * bit (v.egLane l).isSome + 4 * bit iso.isSome) ++
    le 2 (match iso with | some y => y.handle.toNat | none => 0xFFFF))

/-- The device record (05 Table 5-14). -/
def Vexone.deviceRecord (v : Vexone) : List Byte :=
  padTo 24 (le 4 v.clk.frame.toNat ++ le 1 (v.hal.st.code + 16 * ownerNum v.hal.owner) ++
    le 1 (bit v.clk.backup + 2 * v.fr.st.code + 16 * v.fr.role) ++
    le 1 (pack [(bit v.active.isSome, 0), (bit v.sch.quietSel, 1), (bit v.eg.active, 2), (bit v.res.hold, 3),
                (bit (v.img.load.isSome || v.img.proof == .fetching || v.img.proof == .checking), 4),
                (bit v.img.swap.isSome, 5)]) ++ le 1 0 ++
    le 2 v.cx.residents ++ le 2 v.cx.trackedN ++ le 2 v.cx.free ++ le 2 v.cx.pins ++
    le 1 (satTo 255 (v.poolHeld .ownerU + v.poolHeld .ownerGen)) ++ le 1 (satTo 255 (v.poolHeld .obs)) ++
    le 2 (v.ops.filter fun o => o.parked && o.isComplete).length ++ le 2 v.latchedCodes.length)

/-- The state record of a KIND and index; none for an index outside the KIND (05 Table 5-12). -/
def Vexone.stateRecord (v : Vexone) (kind ix : Nat) : Option (List Byte) :=
  match kind with
  | 1 => if h : ix < 16 then some (v.segRecord ⟨ix, h⟩) else none
  | 2 => if ix < 2 then some (v.railRecord (railOfNum ix)) else none
  | 3 => if h : ix < 4 then some (v.motorRecord ⟨ix, h⟩) else if ix = 4 then some v.busRecord else none
  | 4 => if h : ix < 4 then some (v.fanRecord ⟨ix, h⟩) else if ix = 4 then some v.tempRecord else none
  | 5 => if ix = 0 then some v.resRecord else none
  | 6 => if h : ix < 4 then some (v.laneRecord ⟨ix, h⟩) else none
  | 7 => if ix = 0 then some v.deviceRecord else none
  | 8 => if ix = 0 then some v.mainsRecord else none
  | _ => none

/-- The counters of a KIND and index (05 R187, Table 5-15; 07 R262; 11 R399; 12 R445; 14 R507). -/
def Vexone.counterRecord (v : Vexone) (kind ix : Nat) : Option (List Byte) :=
  match kind with
  | 1 => if h : ix < 16 then some (counters v.segs[ix].cnt) else none
  | 2 => if ix < 2 then some (counters (v.rail (railOfNum ix)).cnt) else none
  | 3 => if h : ix < 4 then some (counters v.motors[ix].cnt) else if ix = 4 then some v.busCounters else none
  | 4 => if h : ix < 4 then some (counters v.fans[ix].cnt) else none
  | 5 => if ix = 0 then some (counters v.res.cnt) else none
  | 6 => if h : ix < 4 then some (counters v.lanes[ix].cnt) else none
  | 7 => if ix = 0 then some (counters v.dcnt) else none
  | 8 => if ix = 0 then some (counters v.mains.cnt) else none
  | _ => none

/-! ## The other results -/

/-- The latched faults in ascending code order (05 Table 5-12). -/
def Vexone.faultList (v : Vexone) : List Byte :=
  (v.faults.filter fun e => e.mask != 0).flatMap fun e => le 2 e.code ++ le 2 e.mask.toNat ++ le 4 e.first.toNat

/-- The 128 bytes of a resident context, its key read as zero (05 Table 5-12; 06 Table 6-1). -/
def Vexone.contextBytes (v : Vexone) (e : HEntry) (c : Ctx) : List Byte :=
  let b := c.bytes [] (e.hinted v.clk.ticks)
  let x := (Config.slotChk e.handle v.now).toNat
  b ++ le 2 (if x = crc16 (c.bytes c.key (e.hinted v.clk.ticks)) then x + 1 else x)

/-- The fields of an image in a store record, with FLAGS (05 Table 5-16). -/
def Image.record (im : Image) (flags : Nat) : List Byte :=
  le 4 im.id.toNat ++ le 4 im.len ++ le 2 im.seq.length ++ le 1 im.tpls.length ++ le 1 im.keySlot ++ le 1 im.decl.deploy ++ le 1 flags

/-- A store record (05 Table 5-16): `whole` tells that the bytes in the store are a whole image, whatever its proof. -/
def Store.record (s : Store) (whole : Bool) : List Byte :=
  padTo 16 (match s.image with
    | some im => im.record 3
    | none => if whole then (imageOf s.raw).record 1 else [])

/-- The standby store holds a whole image: one fetched to its end and not rejected, or one whose key slot has been revoked (02
R73, R74; 05 R182; log entry 48). -/
def Vexone.standbyWhole (v : Vexone) : Bool :=
  !v.img.standby.raw.isEmpty && !v.img.abort && !(v.img.load.any fun ld => decide (v.img.fetched < ld.len))

/-- The Q_IMAGE result (05 Table 5-16). -/
def Vexone.imageRecord (v : Vexone) : List Byte :=
  v.img.active.record false ++ v.img.standby.record v.standbyWhole ++ le 1 v.img.proof.code ++ le 1 0 ++ le 2 v.img.code ++ le 2 v.img.tpl.toNat ++
    le 2 v.img.entry.toNat ++ le 4 v.img.proofId.toNat ++ le 4 v.img.fetched ++ le 1 (bit v.img.swap.isSome) ++ le 3 0 ++
    le 4 ((v.img.swap.map (·.bench)).getD 0)

/-! ## The operations -/

/-- RES_LEN and the place of the result (05 R185). -/
def Op.queryBad (o : Op) : Bool :=
  let len := o.a 0 31 16
  len == 0 || decide (4096 < len) || (if o.m = .m2 then decide (48 < len) else decide (o.bufLen < len))

/-- The part of a result that a query asks for; DETAIL is the number of bytes returned. -/
def Vexone.answer (v : Vexone) (o : Op) (e : Entry) (bytes : List Byte) : Vexone :=
  let part := (bytes.drop (o.a 0 15 0)).take (o.a 0 31 16)
  v.finish o e stOk part.length part

/-- What a query returns by its opcode (05 Table 5-12); none where its context is no longer resident. Q_LEDGER: the 24 bytes of
LEDGER (06 Table 6-1, 08 Table 8-2). -/
def Vexone.queryResult (v : Vexone) (o : Op) : Option (List Byte) :=
  match o.opcode with
  | 0x1B01 => v.stateRecord (o.a 1 3 0) o.target
  | 0x1B02 => v.counterRecord (o.a 1 3 0) o.target
  | 0x1B03 => some v.faultList
  | 0x1B04 => (v.ctxOf o.handle).map fun c => ((v.contextBytes (v.cx.get o.handle) c).drop 0x30).take 24
  | 0x1B05 => (v.ctxOf o.handle).map fun c => v.contextBytes (v.cx.get o.handle) c
  | _ => some v.imageRecord

/-- A query copies the state (15 Table 15-3). -/
def Vexone.snap (v : Vexone) (p : Place) (seq i : Nat) : Vexone :=
  match v.opAt p, v.entry i with
  | some o, some e =>
    if o.seq = seq ∧ ¬o.isComplete then
      match v.queryResult o with
      | some bytes => v.answer o e bytes
      | none => v.finish o e stNoContext 0
    else v
  | _, _ => v

/-- The checks of a query that names a handle (05 R166, R186). -/
def Vexone.handleChecks (v : Vexone) (o : Op) : Checks :=
  { badArg := o.queryBad, handle := v.untracked o
    late := if (v.cx.get o.handle).resident then none else some (stNoContext, 0) }

end Sys2Proof.Machine
end

