-- ==== Sys2Proof/Machine/Resets.lean ====
section
/-! DEFINITION. Resets (spec 16): power-on, supply dip and software reset of the secondary die (R541 to R547, R664), and the
port resets of 04 R155. -/

namespace Sys2Proof.Machine

open Sys2Proof

/-! ## Port resets (03 R88; 04 R155; 06 R216; 17 R587, R600) -/

/-- Whether an address lies in a master's ring set-up block. -/
def inBlock (m : Master) (a : Nat) : Bool := a / 0x400 == 8 + m.idx.val

/-- Whether a pair is written through a master's ring set-up block. -/
def PairId.ofMaster (m : Master) : PairId → Bool
  | .ringGeo n _ => n == m
  | .msix p _ => p.master == m
  | _ => false

/-- A master's ring set-up block at reset, its pending values and halves discarded, its rings and queues empty. -/
def Vexone.clearMaster (v : Vexone) (m : Master) : Vexone :=
  let out := fun (c : RegCell) => !inBlock m c.1
  ({ v with regs := { v.regs with wr := v.regs.wr.filter out, inForce := v.regs.inForce.filter out
                                  fresh := v.regs.fresh.filter fun a => !inBlock m a
                                  stale := if (v.regs.stale.lookup m.idx.val).isSome then v.regs.stale
                                           else v.regs.stale ++ [(m.idx.val, v.regs.inForce.filter fun c => inBlock m c.1)] }
            pairs := v.pairs.filter fun q => !q.id.ofMaster m } : Vexone).modMst m fun _ => MasterState.reset

/-- Every read outstanding on the port fails: the load ends with 0x0218, a fill with 0x0505, an operation whose buffer was
read with ST_BUF_FAULT; a descriptor fetch records no fault. -/
def Vexone.failReads (v : Vexone) (m : Master) : Vexone :=
  let v := if v.img.load.any (·.m == m) then v.failLoad else v
  let gone := v.reads.filter (·.m == m)
  let v : Vexone := { v with reads := v.reads.filter (·.m != m) }
  gone.foldl (fun v r =>
    match r.kind with
    | .buffer p seq _ _ => v.bufferFail p seq
    | .fill h _ => v.fillFail r.rid h
    | _ => v) v

/-- The completions of a master's operations are never written. -/
def Vexone.orphanOps (v : Vexone) (m : Master) : Vexone :=
  { v with ops := v.ops.map fun (o : Op) => if o.m = m then { o with orphan := true } else o }

/-- A port reset at its first edge: owner loss first, where the master was the owner. DESIGN CHOICE: its EV_HALYARD carries cause 2
for a PERST# reset as for a function-level one, since 04 Table 4-11 has no cause for the former (log entry 119). -/
def Vexone.portReset (v : Vexone) (p : Port) (x : PortState) : Vexone :=
  let m := p.master
  let v := if v.isOwner m then v.ownerLoss m 2 else v
  let v := (v.setPort p x).orphanOps m
  let v := (v.failReads m).clearMaster m
  if v.cx.spoil.any (·.2 == m) then v.modCx fun c => { c with abandon := true } else v

/-- A port reset's end: the places of operations whose execution has ended are freed, those of the others when theirs ends. -/
def Vexone.portResetEnd (v : Vexone) (m : Master) : Vexone :=
  let left := v.ops.filter fun o => o.m == m && o.orphan && o.isComplete
  left.foldl (fun v o => if o.readyAt ≤ v.now + 1 then v.freeOrphan o.place o.seq else v.leave (o.readyAt - 1) (.orphan o.place o.seq)) v

/-! ## Device resets -/

/-- A motor at reset keeps the levels of its input pins. -/
def Motor.atReset (m : Motor) : Motor := { Motor.reset with hall := m.hall, pins := m.pins }

/-- The secondary die at reset (16 R542): a new wrapping key is drawn; the levels of input pins and what has been put on the
ports stand. -/
def Vexone.atReset (v : Vexone) (cause : BitVec 3) (stage : PowerStage) : Vexone :=
  { Vexone.reset with
    pw := { v.pw with stage := stage, rstCause := cause }
    portA := { PortState.reset with perst := v.portA.perst }
    portB := { PortState.reset with perst := v.portB.perst }
    cx := { Cx.reset with wrap := v.cx.wrap + 1 }
    motors := v.motors.map Motor.atReset
    rack := { Rack.reset with run := v.rack.run }
    lin := v.lin, out := v.out, nextRid := v.nextRid, fresh := v.fresh }

/-- A port through a software reset: link, configuration space and MSI-X table stay (16 Table 16-1). -/
def PortState.kept (x : PortState) : PortState :=
  { x with aerCe := 0, msix := x.msix.map fun (q : MsixVector) => { q with pending := false, records := 0, firstAt := 0, irqNow := false } }

/-! ### The software reset (16 Table 16-3) -/

/-- When the software reset in progress was written, as CCLK time. -/
def PowerStage.resetFrom : PowerStage → Option Nat
  | .stopping t => some t
  | .inReset t => some t
  | _ => none

/-- What runs on through a software reset: the switch to the backup clock, and before it the segments' own stops. -/
def Later.survives : Later → Bool
  | .clockSwitch => true
  | .segment _ => true
  | _ => false

/-- A software reset begins: admission stops, nothing further binds, and completions and events not yet written are lost. -/
def Vexone.startReset (v : Vexone) : Vexone :=
  let w : Vexone := { v with pw := { v.pw with stage := .stopping v.now }, later := v.later.filter fun x => x.what.survives }
  let w := (w.leave (w.now + 16) .resetStop).leave (w.now + 5424) .resetAssert
  if w.clk.ticking then w else w.leave (w.now + 6448) .resetRelease

/-- 16 CCLK on: the furl of every segment falls due, both rails stop as under RAIL_KILL and the charger as under CHG_KILL, and
every motor brake-holds. -/
def Vexone.resetStop (v : Vexone) : Vexone :=
  let v := ((v.furlAll.modRail .fb fun x => x.stopped .off).modRail .ax fun x => x.stopped .off).chgStop
  (List.finRange 4).foldl (fun v n =>
    if v.motors[n].st = .disabled ∨ v.motors[n].st = .faultOff then v else v.motorTo n .hold) v

/-- 5,424 CCLK on: the internal reset is asserted, every output as 16 Table 16-2 states; CCLK keeps its source and its lock. -/
def Vexone.resetAssert (v : Vexone) : Vexone :=
  { v.atReset 4 (.inReset (v.pw.stage.resetFrom.getD v.now)) with
    portA := v.portA.kept, portB := v.portB.kept, clk := { v.clk with restore := none }
    later := v.later.filter fun x => x.what == .clockSwitch || x.what == .resetRelease }

/-- CCLK at the release: on the backup oscillator CAUSE stays and INEXACT is set from the tick that opens frame 0 (16 R664),
which begins 6,448 CCLK after the write (16 Table 16-3). -/
def Vexone.keptClock (v : Vexone) : Clock :=
  if v.clk.ticking then
    { v.clk with frame := 0, edge := 0, t0 := v.pw.stage.resetFrom.getD v.now + 6448, ticks := 0, inexactNext := false
                 inexact := v.onBackup }
  else v.clk

/-- 6,448 CCLK on: the internal reset is released, and the code of a lost reference latches again (16 R664). -/
def Vexone.resetRelease (v : Vexone) : Vexone :=
  let w : Vexone := { v with pw := { v.pw with stage := .running }, clk := v.keptClock, faults := [] }
  let w := { w with mains := { w.mains with statAt := w.now } }
  let due := v.later.any fun x => match x.what with | .clockFault _ => true | _ => false
  if v.onBackup && v.clk.cause != 0 && !due then
    let code := 0x0100 + v.clk.cause.toNat
    w.latchEv code 1 0x0102 (w.clockPayload code 0)
  else w

/-- The states in which a software reset is refused (16 R545, R566). -/
def Vexone.resetRefused (v : Vexone) : Bool := v.eg.active || v.eg.judged != 0 || v.res.hold || !v.img.fusing.isEmpty

/-- A write of RST_CTRL (16 R545). -/
def Vexone.writeRstCtrl (v : Vexone) (m : Master) (be : BitVec 4) (w : Word) : Vexone :=
  let w := mergeBytes 0 w be
  if !(v.isOwner m || v.hal.st == .free) then v.ignoreWrites 1
  else if fld w 31 16 ≠ 0xA55A ∨ fld w 0 0 = 0 then v
  else if v.resetRefused then v.latchF 0x0309 m.idx
  else v.startReset

end Sys2Proof.Machine
end

