-- ==== Sys2Proof/Machine/Window.lean ====
section
/-! DEFINITION. The register window (spec 17): what every address reads, what a write of every address does, the SPI frame of
M2, and what a port does beside requests to the window. -/

namespace Sys2Proof.Machine

open Sys2Proof

/-! ## Reads -/

def word (n : Nat) : Word := BitVec.ofNat 32 n

/-- Word n of a record given as bytes. -/
def recWord (bs : List Byte) (n : Nat) : Word := word (leAt bs (4 * n) 4)

/-- FRM_STAT (17 Table 17-5). -/
def Vexone.frmStat (v : Vexone) : Word :=
  word (pack [(bit v.clk.inexact, 31), (v.fr.role, 28), (v.fr.st.code, 24), (twos 8 v.fr.err, 8), (v.fr.hold, 0)])

/-- CLK_STAT. -/
def Vexone.clkStat (v : Vexone) : Word :=
  word (pack [(satTo 2047 v.clk.syncf, 16), (v.clk.cause.toNat, 8), (bit v.clk.xiOk, 2), (bit v.clk.lock, 1), (bit v.clk.backup, 0)])

/-- PORT_A_STAT and PORT_B_STAT (17 Table 17-6). -/
def PortState.stat (x : PortState) : Word :=
  word (pack [(x.aerCe, 16), (bit x.flr, 7), (bit x.bme, 6), (bit x.linkUp, 5), (x.speed.toNat, 0)])

def LinkBudget.word (b : LinkBudget) : Word := Machine.word (pack [(b.recovMs, 8), (b.replayUs, 0)])

/-- HAL_STAT (03 Table 3-3). -/
def Halyard.stat (h : Halyard) : Word :=
  let lost := match h.st with | .lapsed m => some m | _ => none
  let offeree := match h.st with | .offered _ n _ => some n | _ => none
  word (pack [(h.st.code, 24), (ownerNum (h.owner.or lost), 22), (ownerNum offeree, 20), (h.ignWr, 16), (h.tag.toNat, 0)])

def HalRes.word (r : HalRes) : Word :=
  Machine.word (pack [(r.lastCmd.toNat, 24), (r.result.toNat, 16), (r.seq.toNat, 0)])

/-- The parked completions of a master, and of all of them. -/
def Vexone.parkedCount (v : Vexone) (m : Master) : Nat := (v.ops.filter fun o => o.m == m && o.parked && o.isComplete).length

/-- POOL_STAT and HOLD_STAT. -/
def Vexone.poolStat (v : Vexone) : Word :=
  word (pack [(16 - v.poolHeld .ownerU, 24), (224 - v.poolHeld .ownerGen, 16), (v.bHeld, 8), (16 - v.poolHeld .obs, 0)])

def Vexone.holdStat (v : Vexone) : Word :=
  word (pack [((masters.map v.parkedCount).sum, 16), (256 - v.placesHeld, 0)])

/-- The identity, frame and reset block (17 Table 17-5; 16 R545, R547, R557). -/
def Vexone.readIdentity (v : Vexone) (m : Master) (a : Nat) : Word :=
  match a with
  | 0x0000 => 0x0416024D
  | 0x0004 => Config.serial.extractLsb' 0 32
  | 0x0008 => Config.serial.extractLsb' 32 32
  | 0x0024 => v.clk.frame
  | 0x0028 => v.frmStat
  | 0x002C => v.clkStat
  | 0x0030 => word v.clk.edge
  | 0x0034 => v.regs.nowFrm[m.idx]
  | 0x0044 => v.pw.rstCause.zeroExtend 32
  | 0x0048 => v.fnEn.zeroExtend 32
  | _ => v.written a

/-- The host ports, the Halyard and the pools (17 Table 17-6, 03 Table 3-3). -/
def Vexone.readHost (v : Vexone) (a : Nat) : Word :=
  match a with
  | 0x1000 => v.portA.stat
  | 0x1004 => v.portB.stat
  | 0x1008 => word (pack [(bit v.regs.spiMode3, 16), (v.regs.badFrames, 0)])
  | 0x1010 => v.hal.budgetA.word
  | 0x1014 => v.hal.budgetB.word
  | 0x1104 => v.hal.stat
  | 0x110C => word (pack [(v.hal.count, 16), (v.hal.limit, 0)])
  | 0x1110 => v.hal.res[0].word
  | 0x1114 => v.hal.res[1].word
  | 0x1118 => v.hal.res[2].word
  | 0x1120 => word (pack [(v.hal.min, 16), (v.hal.eff, 0)])
  | 0x1200 => v.poolStat
  | 0x1204 => v.holdStat
  | _ => 0

/-- The master of a ring set-up block or a doorbell page, by its number. -/
def masterNum (n : Nat) : Master := if n = 0 then .m0 else if n = 1 then .m1 else .m2

/-- WAITING of a ring (04 Table 4-2). -/
def Vexone.ringWaits (v : Vexone) (m : Master) (r : Nat) : Bool :=
  if r = 8 then !(v.mst m).events.isEmpty || (v.mst m).marker.isSome
  else if r = 9 then !(v.mst m).tele.isEmpty
  else v.ops.any fun o => o.m == m && o.parked && o.isComplete && (cqOf o.cls).val == r

/-- MSTAT (17 Table 17-7). -/
def Vexone.mstat (v : Vexone) (m : Master) : Word :=
  word (pack [(v.parkedCount m, 16), (bit (v.parkedOf m), 8),
    ((classes.map fun k => bit (v.ring m (sqOf k)).halted <<< clsNum k).sum, 0)])

/-- MCREDIT: credits held by a master's operations, in every pool. -/
def Vexone.mcredit (v : Vexone) (m : Master) : Word :=
  word (v.held.filter fun x => x.1 == m).length

/-- A master's ring set-up block (17 Table 17-7, 04 Table 4-2). -/
def Vexone.readRings (v : Vexone) (a : Nat) : Word :=
  let m := masterNum ((a - 0x2000) / 0x400)
  let o := (a - 0x2000) % 0x400
  if o < 0x140 then
    let x := v.ring m (Fin.ofNat 10 (o / 0x20))
    match o % 0x20 with
    | 0x10 => word (pack [(x.dev.toNat, 16), (x.host.toNat, 0)])
    | 0x14 => word (pack [(bit x.halted, 31), (bit (v.ringWaits m (o / 0x20)), 30), (x.drops, 0)])
    | _ => v.written a
  else if o = 0x300 then v.mstat m
  else if o = 0x304 then v.mcredit m
  else v.written a

/-- An entry of an MSI-X table, and the pending-bit array (04 R149; PCI Express Base 3.x). -/
def MsixVector.word (q : MsixVector) (k : Nat) : Word :=
  match k with
  | 0 => q.addr.extractLsb' 0 32
  | 1 => q.addr.extractLsb' 32 32
  | 2 => q.data
  | _ => Machine.word (bit q.masked)

def PortState.pba (x : PortState) : Word :=
  Machine.word (((List.finRange 16).map fun k => bit x.msix[k].pending <<< k.val).sum)

/-- The words of a record of an M2 ring on chip; zero where none has been written. -/
def memWord (mem : List (Nat × List Word)) (size a : Nat) : Word := ((mem.lookup (a / size)).getD []).getD (a % size / 4) 0

/-- The doorbell pages (04 R128, Table 4-3). -/
def Vexone.readPage (v : Vexone) (a : Nat) : Word :=
  let o := a % 0x1000
  let port := fun (x : PortState) =>
    if 0x800 ≤ o && o < 0x900 then (x.msix[Fin.ofNat 16 ((o - 0x800) / 16)]).word (o % 16 / 4)
    else if o = 0xC00 then x.pba else 0
  if a < 0x4000 then port v.portA
  else if a < 0x5000 then port v.portB
  else
    let x := v.mst .m2
    if 0x100 ≤ o && o < 0x200 then
      (((x.subBox.toList.getD ((o - 0x100) / 64) []).lookup (o % 64 / 4)).getD 0)
    else if 0x200 ≤ o && o < 0x300 then (x.cplShown.toList.getD ((o - 0x200) / 64) []).getD (o % 64 / 4) 0
    else if 0x400 ≤ o && o < 0x800 then memWord x.evMem 32 (o - 0x400)
    else if 0x800 ≤ o && o < 0xC00 then memWord x.teMem 64 (o - 0x800)
    else 0

/-- ACT_INFO and SBY_INFO (17 Table 17-8). -/
def Store.info (x : Store) : Word :=
  match x.image with
  | some im => word (pack [(im.seq.length, 16), (im.tpls.length, 8), (im.keySlot, 2), (im.decl.deploy, 0)])
  | none => 0

def Store.id (x : Store) : Word := (x.image.map (·.id)).getD 0

def SlotSt.code : SlotSt → Nat
  | .empty => 0
  | .fused => 1
  | .revoked => 2

/-- KEY_HASH words: zero while the slot is empty. -/
def KeySlot.word (k : KeySlot) (i : Nat) : Word := if k.st = .empty then 0 else recWord k.hash.toList i

/-- Image load and key slots (17 Table 17-8). -/
def State.readImage (s : State) (a : Nat) : Word :=
  let g := s.vx.img
  if 0x6080 ≤ a && a < 0x6100 then (s.otp.slots[Fin.ofNat 4 ((a - 0x6080) / 32)]).word ((a - 0x6080) % 32 / 4)
  else
    match a with
    | 0x6010 => word (pack [(g.code, 16), (g.proof.code, 0)])
    | 0x6014 => word (pack [(g.tpl.toNat, 16), (g.entry.toNat, 0)])
    | 0x6018 => g.proofId
    | 0x601C => word g.fetched
    | 0x6020 => g.active.id
    | 0x6024 => g.active.info
    | 0x6028 => g.standby.id
    | 0x602C => g.standby.info
    | 0x6030 => word (pack [(bit g.swap.isSome, 31), ((g.swap.map (·.bench)).getD 0, 0)])
    | 0x6040 => word (((List.finRange 4).map fun n => (s.otp.slots[n]).st.code <<< (2 * n.val)).sum)
    | _ => s.vx.written a

/-! ### Mirrors (17 section 17.8) -/

/-- A ring value of master m as its mirror shows it: after a port reset, up to the next tick, as it was (17 R600). -/
def Vexone.ringForce (v : Vexone) (m a : Nat) : Word :=
  match v.regs.stale.lookup m with
  | some l => cellGet l a
  | none => v.force a

/-- Values in force of the shadowed registers (17 Table 17-9). -/
def Vexone.readForce (v : Vexone) (a : Nat) : Word :=
  if a = 0x7010 then v.force 0x0010
  else if a = 0x7020 then v.force 0x0020
  else if 0x7100 ≤ a && a < 0x71E4 then (if isRw (a - 0x7100 + 0x0800) then v.force (a - 0x7100 + 0x0800) else 0)
  else if 0x7200 ≤ a && a < 0x7500 then
    let m := (a - 0x7200) / 0x100
    let o := (a - 0x7200) % 0x100
    if o < 0xA0 then v.ringForce m (ringAddr m (o / 0x10) + o % 0x10)
    else if 0xC0 ≤ o && m < 2 then v.ringForce m (moderAddr m ((o - 0xC0) / 4))
    else 0
  else 0

/-- The live mirrors of a rail (17 Table 17-10). -/
def Vexone.readRail (v : Vexone) (r : RailId) (o : Nat) : Word :=
  let x := v.rail r
  match o with
  | 0x00 => word (pack [(x.slew, 16), (x.tgt, 0)])
  | 0x04 => word (pack [(x.aSlew, 16), (x.eff, 0)])
  | 0x08 => word (pack [(x.shut, 8), (x.warn, 0)])
  | 0x0C => word (pack [(v.railFlags r, 8), (x.st.code, 0)])
  | 0x10 => word (pack [(satTo 65535 x.vout, 16), (x.ref / 4, 0)])
  | 0x14 => word (pack [(x.fsw, 16), (bit x.syncEn, 0)])
  | 0x18 => recWord (v.trims r) 0
  | _ => 0

/-- SEG_SUM, MOTOR_SUM, the motor bus and egress. -/
def Vexone.readMotion (v : Vexone) (a : Nat) : Word :=
  match a with
  | 0x7600 =>
    let held := BitVec.ofNat 16 (((List.finRange 16).map fun s => bit (!v.segs[s].live && (v.segLatched s.val).isSome) <<< s.val).sum)
    word (pack [(held.toNat, 16), (v.unfurled.toNat, 0)])
  | 0x7604 => word (((List.finRange 4).map fun n =>
      bit v.motors[n].homed <<< (16 + n.val) + v.motors[n].st.code <<< (4 * n.val)).sum)
  | 0x7608 => word (pack [(v.mbus.dly, 16), (v.mbus.thr, 0)])
  | 0x760C => word (pack [(bit v.mbus.regen, 18), (bit v.mbus.forced, 17), (bit v.mbus.chop, 16), (satTo 65535 v.mbus.vbus, 0)])
  | 0x7610 =>
    let since := if v.eg.active || (v.eg.cause != 0 && v.eg.judged == 0) then satTo 65535 (v.clk.ticks - v.eg.atTick) else 0
    word (pack [(since, 16), (bit v.sch.quietSel, 9), (bit v.eg.active, 8), (v.eg.lanes.toNat, 4), (v.eg.armed.toNat, 0)])
  | 0x7614 => v.eg.eFrame
  | _ => 0

/-- A fan channel. -/
def Vexone.readFan (v : Vexone) (k : FanId) (o : Nat) : Word :=
  let f := v.fans[k]
  if o < 0x20 then
    let r := f.rows[Fin.ofNat 8 (o / 4)]
    word (pack [(twos 8 r.temp, 8), (r.duty, 0)])
  else
    match o with
    | 0x20 => word (pack [(f.hyst, 24), (f.mask.toNat, 16), (f.duty, 8), (f.mode, 0)])
    | 0x24 => word (pack [(f.time, 16), (f.limit, 0)])
    | 0x28 => word (pack [(f.forced.toNat, 16), ((f.rows.toList.mapIdx fun i r => bit r.isOn <<< i).sum <<< 8, 0), (f.applied, 0)])
    | 0x2C => word (satTo 65535 f.rpm)
    | _ => 0

/-- Temperatures, reservoir and mains. -/
def Vexone.readPower (v : Vexone) (a : Nat) : Word :=
  let r := v.res
  if 0x7800 ≤ a && a < 0x7820 then
    let x := v.th.ins[Fin.ofNat 8 ((a - 0x7800) / 4)]
    word (pack [(x.beta, 16), (twos 16 x.t8, 0)])
  else if 0x7820 ≤ a && a < 0x7830 then word (twos 16 (v.th.die[Fin.ofNat 4 ((a - 0x7820) / 4)]))
  else if 0x7900 ≤ a && a < 0x7918 then word (r.cell ((a - 0x7900) / 4))
  else
    match a with
    | 0x7830 => word (pack [((List.finRange 8).foldl (fun n k => n + bit v.th.ins[k].faulted <<< k.val) 0, 16),
        (twos 16 v.th.dieT, 0)])
    | 0x7918 => word (pack [(r.stack / 10, 16), (r.sum / 10, 0)])
    | 0x791C => word (pack [(bit r.dropout, 26), (bit r.hold, 25), (bit r.ready, 24), (v.chgCode, 16), (satTo 1023 r.chgMa, 0)])
    | 0x7920 => word (pack [(r.vcell, 16), (r.ichg, 0)])
    | 0x7924 => word (pack [(r.balTh, 8), (bit r.balEn, 0)])
    | 0x7928 => word (pack [(r.openL.toNat, 16), (r.suspect.toNat, 8), (v.bleeding.toNat, 0)])
    | 0x7940 => word (pack [(v.mains.peak, 16), (bit v.mains.ov, 12), (bit v.mains.lost, 11), (bit v.priOn, 10),
        (bit v.mains.priEn, 9), (bit v.mains.dc, 8), (v.mains.st, 0)])
    | 0x7944 => word (if v.mains.dc then 0 else v.mains.half)
    | _ => 0

/-- The codes of each subsystem with their entry base (17 Table 17-11): subsystem, codes, base. -/
def faultBases : List (Nat × Nat × Nat) :=
  [(1, 8, 0), (3, 9, 9), (4, 8, 18), (5, 6, 26), (6, 5, 32), (7, 6, 37), (8, 8, 43), (9, 10, 51), (10, 7, 61), (11, 4, 68),
   (12, 4, 72)]

/-- The code of a fault entry; 0x0201 stands for the proof codes of entry 8. -/
def entryCode (e : Nat) : Option Nat :=
  if e = 8 then some 0x0201
  else if e = 76 then some 0x0219
  else (faultBases.find? fun x => decide (x.2.2 ≤ e ∧ e < x.2.2 + x.2.1)).map fun x => 256 * x.1 + (e - x.2.2) + 1

/-- A word of a fault entry (17 R596). -/
def Vexone.faultWord (v : Vexone) (code k : Nat) : Word :=
  let x := v.faultPlace code
  match k with
  | 0 => word (pack [(if isProofCode code then (if x.mask = 0 then 0 else x.code) else code, 16), (x.count, 0)])
  | 1 => word x.mask.toNat
  | 2 => x.first
  | _ => x.latest

/-- FAULT_SUM of a subsystem. -/
def Vexone.faultSum (v : Vexone) (h : Nat) : Nat :=
  ((v.latchedCodes.filter fun c => c / 256 == h).map fun c => 1 <<< (c % 256 - 1)).foldl (· ||| ·) 0

/-- The fault mirror (17 R595). -/
def Vexone.readFaults (v : Vexone) (a : Nat) : Word :=
  if a = 0x7A00 then
    word (bit v.faultN + ((List.range 12).map fun h => bit (v.faultSum (h + 1) != 0) <<< (h + 1)).sum)
  else if a < 0x7A34 then word (v.faultSum ((a - 0x7A04) / 4 + 1))
  else if 0x7A80 ≤ a && a < 0x7F50 then
    match entryCode ((a - 0x7A80) / 16) with
    | some code => v.faultWord code (a % 16 / 4)
    | none => 0
  else 0

/-- The machine as its mirrors show it: at edges 0 to 7 after a tick as it stood before that tick (01 R27, 17 R598). -/
def Vexone.mirrored (v : Vexone) : Vexone :=
  match v.shown with
  | some b =>
    if v.clk.edge < 8 then
      { v with regs := b.regs, segs := b.segs, lanes := b.lanes, fb := b.fb, ax := b.ax, motors := b.motors, mbus := b.mbus
               eg := b.eg, sch := { v.sch with quietSel := b.quietSel }, res := b.res, mains := b.mains, th := b.th
               fans := b.fans, fwd := b.fwd }
    else v
  | none => v

/-- The mirrors, 0x7000 to 0x7F4F; the fault mirror follows at once. -/
def Vexone.readMirror (w : Vexone) (a : Nat) : Word :=
  let v := w.mirrored
  if a < 0x7500 then v.readForce a
  else if a < 0x7580 then v.readRail (railOfNum ((a - 0x7500) / 0x40)) (a % 0x40)
  else if a < 0x7590 then
    let x := v.lanes[Fin.ofNat 4 ((a - 0x7580) / 4)]
    word (pack [(x.busCap, 16), (x.ampCap, 8), (x.level.val, 0)])
  else if a = 0x7590 then word v.busCap
  else if 0x75C0 ≤ a && a < 0x7600 then
    let x := v.segs[Fin.ofNat 16 ((a - 0x75C0) / 4)]
    word (pack [(x.opDl, 24), (x.opTh, 16), (x.shDl, 8), (x.shTh, 0)])
  else if a < 0x7700 then v.readMotion a
  else if a = 0x77F0 then word (pack [(if v.fwd.armed then v.fwd.count else 0xFFFF, 16), (v.fwd.limit, 0)])
  else if a < 0x7800 then v.readFan (Fin.ofNat 4 ((a - 0x7700) / 0x40)) (a % 0x40)
  else if a < 0x7A00 then v.readPower a
  else w.readFaults a

/-- What a master's read of an address returns: WO fields and reserved addresses read zero (00 R9, R11; 17 R574). -/
def State.readReg (s : State) (m : Master) (a : Nat) : Word :=
  let v := s.vx
  if a < 0x0800 then v.readIdentity m a
  else if a < 0x1000 then v.written a
  else if a < 0x2000 then v.readHost a
  else if a < 0x2C00 then v.readRings a
  else if a < 0x3000 then 0
  else if a < 0x6000 then v.readPage a
  else if a < 0x7000 then s.readImage a
  else v.readMirror a

/-! ### What a read changes (00 R9; 03 R89; 17 R585) -/

/-- The bytes of a register up to the last of its RC field, where it has one. -/
def rcBytes (a : Nat) : Option Nat :=
  if a = 0x0044 then some 1
  else if a = 0x1000 || a = 0x1004 then some 4
  else if a = 0x1008 then some 2
  else if 0x2000 ≤ a && a < 0x2C00 && (a - 0x2000) % 0x400 < 0x140 && a % 0x20 = 0x14 then some 2
  else none

/-- The RC field of a register set to its reset value, with what the hardware has added in this very CCLK (00 R16). -/
def Vexone.clearRc (v : Vexone) (a : Nat) : Vexone :=
  let n := v.heated a
  if a = 0x0044 then { v with pw := { v.pw with rstCause := 0 } }
  else if a = 0x1000 then { v with portA := { v.portA with aerCe := n } }
  else if a = 0x1004 then { v with portB := { v.portB with aerCe := n } }
  else if a = 0x1008 then { v with regs := { v.regs with badFrames := n } }
  else if (rcBytes a).isSome then
    v.modRing (masterNum ((a - 0x2000) / 0x400)) (Fin.ofNat 10 ((a - 0x2000) % 0x400 / 0x20)) fun x => { x with drops := n }
  else v

/-- A read of NOW_OFS captures the frame number for its master. -/
def Vexone.capture (v : Vexone) (m : Master) (a : Nat) : Vexone :=
  if a = 0x0030 then { v with regs := { v.regs with nowFrm := v.regs.nowFrm.set m.idx v.clk.frame } } else v

/-- A read of which n bytes are carried to the master: the value goes out, NOW_OFS captures, and the owner's read clears an
RC field whose last byte has gone out. -/
def State.readBytes (s : State) (m : Master) (a n : Nat) : State :=
  let v := (s.vx.put (.regRead m a (s.readReg m a))).capture m a
  { s with vx := if v.isOwner m && (rcBytes a).any (· ≤ n) then v.clearRc a else v }

/-- The aligned address of a register. -/
def regAddr (a : BitVec 16) : Nat := a.toNat / 4 * 4

/-! ## Writes (17 R576, Table 17-3; 03 R90) -/

/-- A write outside a master's rights: ignored, and counted when an observer makes it. -/
def Vexone.deny (v : Vexone) (m : Master) : Vexone := if v.isOwner m then v else v.ignoreWrites 1

/-- A write of a shadowed or plain RW register by the owner. -/
def Vexone.writeRw (v : Vexone) (m : Master) (a : Nat) (be : BitVec 4) (w : Word) : Vexone :=
  if v.isOwner m then
    let v := v.setWritten a (mergeBytes (v.written a) w be)
    if isShadowed a then v.markFresh a else v
  else v.deny m

/-- HP_BUDGET_A and HP_BUDGET_B: the owner, or any master while the Halyard is free (03 R90, R93). -/
def Vexone.writeBudget (v : Vexone) (m : Master) (portB : Bool) (be : BitVec 4) (w : Word) : Vexone :=
  if v.isOwner m || v.hal.st == .free then
    let w := mergeBytes (if portB then v.hal.budgetB else v.hal.budgetA).word w be
    let b : LinkBudget := { recovMs := fld w 15 8, replayUs := fld w 7 0 }
    { v with hal := if portB then { v.hal with budgetB := b } else { v.hal with budgetA := b } }
  else v.deny m

/-- A write of a ring's registers by its own master (04 R117; 17 R578): BASE_HI writes the base half of the geometry pair,
LOG2_SIZE the size half; ENABLE and VECTOR wait for the tick. M2's geometry is fixed. -/
def Vexone.writeRing (v : Vexone) (m : Master) (r : Fin 10) (o : Nat) (be : BitVec 4) (w : Word) : Vexone :=
  let a := ringAddr m.idx r + o
  let v := v.setWritten a (mergeBytes (v.written a) w be)
  if o = 0x0C then v.markFresh a
  else if m = .m2 then v
  else if o = 0x04 then
    v.pairWrite (.ringGeo m r) (some ((v.written (a - 4)).toNat + (v.written a).toNat * 2 ^ 32 : Nat)) none
  else if o = 0x08 && be.getLsbD 0 then v.pairWrite (.ringGeo m r) none (some (fld (v.written a) 3 0 : Nat))
  else v

/-- A write of a moderation register by its own master (04 R148): a zero in either field is discarded. -/
def Vexone.writeModer (v : Vexone) (p : Port) (k : Fin 16) (be : BitVec 4) (w : Word) : Vexone :=
  let a := moderAddr p.master.idx k
  let old := v.written a
  let new := mergeBytes old w be
  let cnt := fld new 23 16
  let hold := fld new 7 0
  let v := v.setWritten a (word (pack [(if cnt = 0 then fld old 23 16 else cnt, 16), (if hold = 0 then fld old 7 0 else hold, 0)]))
  let h1 : Option Int := if be.getLsbD 2 && cnt != 0 then some (cnt : Nat) else none
  let h2 : Option Int := if be.getLsbD 0 && hold != 0 then some (hold : Nat) else none
  if h1.isSome || h2.isSome then v.pairWrite (.msix p k) h1 h2 else v

/-- A master's ring set-up block. -/
def Vexone.writeBlock (v : Vexone) (m : Master) (a : Nat) (be : BitVec 4) (w : Word) : Vexone :=
  if !inBlock m a then v.deny m
  else
    let o := a % 0x400
    if o < 0x140 then (if o % 0x20 < 0x10 then v.writeRing m (Fin.ofNat 10 (o / 0x20)) (o % 0x20) be w else v)
    else if 0x200 ≤ o && o < 0x240 then
      match m.port with
      | some p => v.writeModer p (Fin.ofNat 16 ((o - 0x200) / 4)) be w
      | none => v
    else v

/-- An entry of an MSI-X table written. -/
def MsixVector.write (q : MsixVector) (k : Nat) (be : BitVec 4) (w : Word) : MsixVector :=
  let new := mergeBytes (q.word k) w be
  match k with
  | 0 => { q with addr := q.addr.extractLsb' 32 32 ++ new }
  | 1 => { q with addr := new ++ q.addr.extractLsb' 0 32 }
  | 2 => { q with data := new }
  | _ => { q with masked := new.getLsbD 0 }

/-- A word of an M2 submission mailbox written; words of zero are not listed. -/
def MasterState.writeBox (x : MasterState) (o : Nat) (be : BitVec 4) (w : Word) : MasterState :=
  { x with subBox := vmodN x.subBox (o / 64) fun (box : List RegCell) =>
      let k := o % 64 / 4
      let new := mergeBytes ((box.lookup k).getD 0) w be
      let rest := box.filter fun y => y.1 != k
      if new = 0 then rest else insertBy (fun y z => y.1 < z.1) (k, new) rest }

/-- The ring of a doorbell (04 Table 4-6). -/
def bellRing (o : Nat) : Fin 10 := Fin.ofNat 10 (o / 4)

/-- A doorbell page. -/
def Vexone.writePage (v : Vexone) (m : Master) (a : Nat) (be : BitVec 4) (w : Word) : Vexone :=
  let o := a % 0x1000
  if a / 0x1000 ≠ 3 + m.idx.val then v.deny m
  else if o < 0x28 then v.ringBell m (bellRing o) be w
  else
    match m.port with
    | some p =>
      if 0x800 ≤ o && o < 0x900 then
        let x := v.portOf p
        v.setPort p { x with msix := vmodN x.msix ((o - 0x800) / 16) fun q => q.write (o % 16 / 4) be w }
      else v
    | none => if 0x100 ≤ o && o < 0x200 then v.modMst .m2 fun x => x.writeBox (o - 0x100) be w else v

/-- A HAL_CTRL write (03 Table 3-4). -/
def Vexone.writeHal (v : Vexone) (m : Master) (w : Word) : Vexone :=
  let tag := w.extractLsb' 0 16
  match fld w 31 24 with
  | 1 => v.claim m tag
  | 2 => v.release m
  | 3 => v.offer m (w.extractLsb' 16 2)
  | 4 => v.withdraw m
  | 5 => v.accept m tag
  | 6 => v.decline m
  | 7 => v.takeover m tag
  | n => v.halUndefined m (BitVec.ofNat 8 n)

/-- A write of any address completes: what it does follows the row of its register, or its block. A write that enables no
byte does nothing; bytes of a WO register that are not enabled count as zero. -/
def Vexone.writeReg (v : Vexone) (m : Master) (a : Nat) (be : BitVec 4) (w : Word) : Vexone :=
  let wo := mergeBytes 0 w be
  if be = 0 then v
  else if a = 0x0020 then v.writeFrmCtl m be w
  else if a = 0x0040 then v.writeRstCtrl m be w
  else if a = 0x0048 then
    (if v.isOwner m then
      { v with fnEn := (mergeBytes (v.fnEn.zeroExtend 32) w be &&& 0x1FFE).extractLsb' 0 13 } else v.deny m)
  else if a < 0x1000 then (if isRw a then v.writeRw m a be w else v.deny m)
  else if a = 0x1010 ∨ a = 0x1014 then v.writeBudget m (a == 0x1014) be w
  else if a = 0x1100 then v.writeHal m wo
  else if a = 0x1108 then v.kick m
  else if a = 0x110C then v.writeLimit m be w
  else if 0x2000 ≤ a ∧ a < 0x2C00 then v.writeBlock m a be w
  else if 0x3000 ≤ a ∧ a < 0x6000 then v.writePage m a be w
  else if a = 0x600C then v.startLoad m wo
  else (if isRw a then v.writeRw m a be w else v.deny m)

/-! ## The SPI frame (17 section 17.3) -/

/-- The registers of a read frame of n whole data bytes; `more` tells that the next byte had begun. -/
def State.spiRead (s : State) (more : Bool) : Nat → Nat → Nat → State
  | 0, _, _ => s
  | k + 1, a, n =>
    if n = 0 && !more then s
    else
      let s := s.readBytes .m2 a n
      if n < 4 then s else s.spiRead more k ((a + 4) % 65536) (n - 4)

/-- A frame that R582 ignores. -/
def Vexone.badFrame (v : Vexone) : Vexone :=
  ({ v with regs := { v.regs with badFrames := satTo 65535 (v.regs.badFrames + 1) } } : Vexone).heat 0x1008 1

end Sys2Proof.Machine
end

