-- ==== Sys2Proof/Machine/Run.lean ====
section
/-! DEFINITION. How a command runs: the time it brings, the scheduled activity it is, the operation that begins in its
cleat. -/

namespace Sys2Proof.Machine

open Sys2Proof

/-! ## Time (log entry 2) -/

/-- What the device does of itself at an edge. -/
def Vexone.runLater (v : Vexone) : Later → Vexone
  | .clockSwitch => v.switchClock
  | .clockFurl => v.lapseAll.furlAll
  | .clockFault c => v.referenceFault c
  | .lossFans => v.forceFans 0 none
  | .lossFault => v.latchRaw 0x0301 1
  | .lossFurl => v.furlAll
  | .lossBrake => v.brakeAll
  | .segment s => v.segAct s
  | .release s => v.segRelease s
  | .decode m cl => v.endDecode m cl
  | .mailbox cl => v.takeRing .m2 cl
  | .orphan p seq => if (v.opAt p).any (fun o => v.inPortReset o.m) then v else v.freeOrphan p seq
  | .chopLow => v.chopEnds
  | .adopt r => v.adopt r
  | .balance r mA => v.balUpdate r fun p => mA.toList.getD (match r with | .fb => p.val | .ax => 4 + p.val) 0
  | .fanUpdate c => v.fanUpdate c
  | .thermEnd codes die => v.thermScan codes die
  | .otShut r => v.otShutdown r
  | .motion n egress => if (v.egLane n).isSome = egress then (if egress then v.resumeLane n else v).motionUpdate n else v
  | .regen vbus => v.chooseRegen vbus
  | .chgSample d => v.chgUpdate d
  | .segDiag s failed => v.segDiag s failed
  | .haltFurl m => v.forSegs m Vexone.furl
  | .railKill r => v.modRail r fun x => x.stopped .off
  | .chgKill => v.chgStop
  | .snap p seq i => v.snap p seq i
  | .cxMove => v.move
  | .spiWrite a be w => v.writeReg .m2 a be w
  | .resetStop => v.resetStop
  | .resetAssert => v.resetAssert
  | .resetRelease => v.resetRelease

/-- What is left up to a CCLK time happens, earliest first, each at its own edge; n bounds how much. -/
def Vexone.runUpTo (t : Nat) : Nat → Vexone → Vexone
  | 0, v => v
  | n + 1, v =>
    match v.later with
    | [] => v
    | x :: rest =>
      if x.at_ ≤ t then
        Vexone.runUpTo t n (({ v with later := rest
                                      clk := { v.clk with edge := max v.clk.edge (x.at_ - v.clk.t0) } } : Vexone).runLater x.what)
      else v

/-- More than can fall due between two commands: one effect for each unit of the device and each request in flight. -/
def laterBound : Nat := 4096

/-- The state at an edge of this frame, with all that falls due up to it done; time never runs back. -/
def Vexone.atEdge (v : Vexone) (e : Nat) : Vexone :=
  let v := v.runUpTo (v.clk.t0 + e) laterBound
  { v with clk := { v.clk with edge := max v.clk.edge e } }

/-- Time passes in a software reset up to an edge of the frame in which it was written; held in reset the die keeps no time. -/
def Vexone.idle (v : Vexone) (e : Nat) : Vexone := if v.pw.stage.resetFrom.isSome then v.atEdge e else v

/-- A step at an edge, where the die runs. -/
def Vexone.live (v : Vexone) (e : Edge) (f : Vexone → Vexone) : Vexone := if v.alive then f (v.atEdge e) else v.idle e

/-- A step of a pin, a link or the reference, which a software reset does not stop. -/
def Vexone.linked (v : Vexone) (e : Edge) (f : Vexone → Vexone) : Vexone := if v.alive then f (v.atEdge e) else f (v.idle e)

/-! ## Accesses of masters (00 R17; 15 Table 15-2) -/

/-- The edge at which an access received with edge e is served: 4 CCLK later for each access of an earlier master received in
the same CCLK. -/
def Vexone.serveEdge (v : Vexone) (e : Nat) (m : Master) : Nat :=
  if v.regs.served.1 = v.clk.t0 + e then
    e + 4 * ((List.range m.idx).filter fun k => v.regs.served.2.getLsbD k).length
  else e

/-- An access of a master received: it is served at its edge. -/
def Vexone.accessed (v : Vexone) (e : Nat) (m : Master) : Vexone :=
  let who := oneHot 3 m.idx ||| (if v.regs.served.1 = v.clk.t0 + e then v.regs.served.2 else 0)
  ({ v with regs := { v.regs with served := (v.clk.t0 + e, who) } } : Vexone).atEdge (v.serveEdge e m)

/-- A step that is a write access of a master, where the die runs; in a software reset the write is ignored (16 Table 16-3). -/
def Vexone.access (v : Vexone) (e : Edge) (m : Master) (f : Vexone → Vexone) : Vexone :=
  if v.alive then f (v.accessed e m) else v.idle e

/-- A scheduled activity of a code: what an activity command needs to act (02 R55). The die must run and tick. -/
def Vexone.activity (v : Vexone) (i code : Nat) (f : Entry → Vexone → Vexone) : Vexone :=
  if v.alive && v.clk.ticking then
    match v.entry i with
    | some e => if e.kind = 0 && e.code == code then f e (v.atEdge e.start) else v
    | none => v
  else v

/-- The operation at a place begins execution in cleat entry i of the running template, where it is the operation that
takes that cleat; a cleat carries one operation (05 R164). Its checks are judged, then its effect runs. -/
def Vexone.runOp (v : Vexone) (p : Place) (i opcode : Nat) (checks : Vexone → Op → Checks)
    (effect : Vexone → Op → Entry → Vexone) : Vexone :=
  if v.alive && v.clk.ticking && !v.sch.used.contains i then
    match v.entry i with
    | none => v
    | some e =>
    let w := v.atEdge e.start
    match w.opAt p with
    | some o =>
      if o.opcode = opcode ∧ w.taker e = some o then
        let v := { w with sch := { w.sch with used := w.sch.used ++ [i] } }
        let v := v.fanKick o.m
        let v := v.modOp p fun o => { o with phase := .running }
        match (checks v o).first (o.cls == .u) ((opInfo opcode).any (·.image)) v.active.isSome o.reservedBad with
        | some (st, d) => v.finish o e st d
        | none => effect v o e
      else v
    | none => v
  else v

/-- An operation marked `tick`: its setting waits for the tick (05 R168). -/
def Vexone.runTick (v : Vexone) (p : Place) (i opcode : Nat) (checks : Vexone → Op → Checks)
    (set : Vexone → Op → Setting × Nat) : Vexone :=
  v.runOp p i opcode checks fun v o e =>
    let (x, d) := set v o
    (v.pushDue o.place x).done o e d

end Sys2Proof.Machine
end

