-- ==== Sys2Proof/Machine/FieldCommands.lean ====
section
/-! DEFINITION. The commands of Field.lean: The field engine (spec 07): segments, furls, reef, the field activities, the field operations of 05
Table 5-3 and the field protections. -/

namespace Sys2Proof.Machine

open Sys2Proof

/-! ## Field activities (07 Table 7-4) -/

/-- CARRIER (07 Table 7-4; 08 R276): `uW` is the real power that each segment draws over the run. -/
def execCarrier (i : Nat) (uW : Vector Nat 16) (s : State) : Host.Outcome State Fault Refusal :=
  onVx s fun v => v.activity i 0x0101 fun e v =>
    (v.carry e).forSegs e.segs fun v s => v.measure s uW[s] (v.carrierOf s).2 e.dur true

/-- ISO_SLOT (07 Table 7-4): the carrier vector, and one REQA on each carrying segment that is not listening. -/
def execIsoSlot (i : Nat) (s : State) : Host.Outcome State Fault Refusal :=
  onVx s fun v => v.activity i 0x0102 fun e v =>
    (v.carry e).forSegs e.segs fun v s =>
      if v.segs[s].live && !v.segs[s].waitBst && !v.segs[s].skipped && !v.segs[s].guarded && !v.listening s then
        v.modSeg s fun x => { x with cnt := vcount x.cnt 5, modEnd := v.clk.t0 + e.start + 64 + 9 * 2048 }
      else v

/-- REFRESH (07 R241, R270, Table 7-4): both low sides conduct for the whole activity; a running segment stops at its zero
crossing and resumes at the end; a segment in fault-off is left. -/
def execRefresh (i : Nat) (s : State) : Host.Outcome State Fault Refusal :=
  onVx s fun v => v.activity i 0x0103 fun e v =>
    v.forSegs e.segs fun v s =>
      let x := v.segs[s]
      if x.phase = .faultOff then v
      else
        let v := v.modSeg s fun x => { x with refreshAt := v.clk.ticks }
        if x.phase = .carrying then v.restFor s (v.clk.t0 + e.start + e.dur)
        else v.modSeg s fun x => { x with pulseTo := v.clk.t0 + e.start + e.dur }

/-- SEG_DIAG (07 Table 7-4, R270): furled, fault-free segments alone; `failed` names those whose comparators did not
trip within their delays. On another segment it does nothing, and a waiting DIAG_START keeps waiting. -/
def execSegDiag (i : Nat) (failed : BitVec 16) (s : State) : Host.Outcome State Fault Refusal :=
  onVx s fun v => v.activity i 0x0104 fun e v =>
    v.forSegs e.segs fun v s =>
      if v.segs[s].phase == .furled && (v.segLatched s.val).isNone then
        v.leave (v.clk.t0 + e.last) (.segDiag s (failed.getLsbD s.val))
      else { v with diags := v.diags.map fun (d : Diag) =>
               if d.test == 1 && d.unit == s.val then { d with ticks := v.clk.ticks } else d }

/-! ## Field operations (05 Table 5-3) -/

/-- FIELD_HALT: each named unfurled segment furls; DETAIL counts them, and bit 15 tells of a voided setting whose
completion was written (05 Table 5-3, R188). -/
def execFieldHalt (p : Place) (i : Nat) (s : State) : Host.Outcome State Fault Refusal :=
  onVx s fun v => v.runOp p i 0x1201 (fun _ _ => {}) fun v o e =>
    let n := countOnes (o.segMask &&& v.unfurled)
    let (v, late) := v.voidUnfurl o.segMask
    (v.leave (v.now + 16) (.haltFurl o.segMask)).done o e (n + (if late then 0x8000 else 0))

/-- UNFURL (05 Table 5-3, R189, R191; 01 R39, R44). -/
def execUnfurl (p : Place) (i : Nat) (s : State) : Host.Outcome State Fault Refusal :=
  onVx s fun v => v.runTick p i 0x1202
    (fun v o =>
      { undeclared := v.segsUndeclared o.segMask
        egress := v.eg.active
        clock := if v.clockRefuses then some v.clockCode else none
        prot := firstSome ((segsOf o.segMask).map fun x => v.segHeld x.val)
        state := if v.fb.switching then none else some 0 })
    fun v o => (.unfurl o.segMask, countOnes (o.segMask &&& ~~~(v.unfurled ||| v.unfurlPending)))

/-- FURL (05 Table 5-3). -/
def execFurl (p : Place) (i : Nat) (s : State) : Host.Outcome State Fault Refusal :=
  onVx s fun v => v.runTick p i 0x1203 (fun v o => { undeclared := v.segsUndeclared o.segMask })
    fun v o => (.furl o.segMask, countOnes (o.segMask &&& v.unfurled))

/-- REEF (05 Table 5-3). -/
def execReef (p : Place) (i : Nat) (s : State) : Host.Outcome State Fault Refusal :=
  onVx s fun v => v.runTick p i 0x1204 (fun v o => { undeclared := !v.laneDeclared o.target })
    fun _ o => (.reef o.lane (Fin.ofNat 4 (o.a 0 1 0)), 0)

/-- REEF_CAP (05 Table 5-3, R169). -/
def execReefCap (p : Place) (i : Nat) (s : State) : Host.Outcome State Fault Refusal :=
  onVx s fun v => v.runOp p i 0x1205
    (fun v o =>
      let amp := o.half 0 (o.a 0 5 0)
      let bus := o.half 1 (o.a 0 26 16)
      { badArg := o.halves == 0 || amp.any (· > 32) || bus.any (fun b => b < 200 || b > 1400)
        undeclared := !v.laneDeclared o.target
        late := if bus.any (· > (v.fbusMax : Int)) then some (stLimit, 0) else none })
    fun v o e => (v.pairWrite (.reef o.lane) (o.half 0 (o.a 0 5 0)) (o.half 1 (o.a 0 26 16))).done o e

/-- SEG_COMP (05 Table 5-3; 07 R244). -/
def execSegComp (p : Place) (i : Nat) (s : State) : Host.Outcome State Fault Refusal :=
  onVx s fun v => v.runOp p i 0x1206
    (fun v o =>
      { badArg := o.halves == 0 || (o.half 0 (o.a 0 15 8)).any (· < 1) || (o.half 1 (o.a 0 23 16)).any (· < 1)
        undeclared := v.segsUndeclared (oneHot 16 o.target) })
    fun v o e =>
      (v.pairWrite (if o.a 0 0 0 = 0 then .segShort o.seg else .segOpen o.seg)
        (o.half 0 (o.a 0 15 8)) (o.half 1 (o.a 0 23 16))).done o e

/-- LEG_DRIVE (05 Table 5-3; 07 R234, R236). -/
def execLegDrive (p : Place) (i : Nat) (s : State) : Host.Outcome State Fault Refusal :=
  onVx s fun v => v.runTick p i 0x1207
    (fun v o =>
      { badArg := decide (24 < o.a 0 13 8)
        undeclared := v.segsUndeclared (oneHot 16 o.target)
        state := if v.segs[o.seg].live then some 0 else none })
    fun _ o => (.legDrive o.seg (o.a 0 2 0) (o.a 0 6 4) (o.a 0 13 8), 0)

/-! ## Field protections -/

/-- Whether the last DELAY periods of a segment up to this edge were all evaluated for open load (07 R246): it carries at an
applied amplitude of 8 or more, its first 8 periods and those after a vector change are over, and no modulation pause lies in
them or in the 2 periods before. -/
def Vexone.openJudged (v : Vexone) (x : Seg) : Bool :=
  x.runs && decide (8 ≤ x.s) && decide (x.from_ + 64 * (8 + x.opDl) ≤ v.step4) && decide (x.modEnd + 16 * (2 + x.opDl) ≤ v.now)

/-- OPEN_LOAD (07 R246, R250, R263): the DELAY-th consecutive miss ends at this edge; the segment furls at the zero crossing that
ends it, fault 0x0602. One that a short has stopped in this very CCLK is left in fault-off, and both codes are latched. -/
def execOpenLoad (e : Edge) (sg : SegId) (s : State) : Host.Outcome State Fault Refusal :=
  onVx s fun v => v.live e fun v =>
    let x := v.segs[sg]
    if v.openJudged x then (v.segFault 0x0602 sg (some 1)).furlFrom sg (v.step4 - 3)
    else if x.phase == .faultOff && x.shortAt == some v.now then v.segFault 0x0602 sg (some 1)
    else v

/-- SEGMENT_SHORT (07 R245): acts in every state but fault-off; all transistors off at once, fault 0x0601. -/
def execSegmentShort (e : Edge) (sg : SegId) (s : State) : Host.Outcome State Fault Refusal :=
  onVx s fun v => v.live e fun v =>
    if v.segs[sg].phase == .faultOff then v
    else
      let judged := v.openJudged v.segs[sg]
      let v := v.segFault 0x0601 sg (some 0)
      (v.cutCleat sg).modSeg sg fun x =>
        { (x.dropSel v.now).still with phase := .faultOff, pulseTo := 0, shortAt := if judged then some v.now else none
                                       refreshAt := if x.runs then v.clk.ticks else x.refreshAt
                                       cnt := if x.live then vcount x.cnt 3 else x.cnt }

/-- BOOTSTRAP_FAULT (07 R243): a segment that carries furls at its next zero crossing. -/
def execBootstrapFault (e : Edge) (sg : SegId) (legA legB : Bool) (s : State) : Host.Outcome State Fault Refusal :=
  onVx s fun v => v.live e fun v =>
    let v := v.modSeg sg fun x => { x with bstA := x.bstA && !legA, bstB := x.bstB && !legB }
    if (legA || legB) && v.segs[sg].phase == .carrying then (v.segFault 0x0603 sg (some 2)).furl sg else v

/-- BOOTSTRAP_READY (07 R242): the carrier of a waiting segment starts at the next period boundary, on the vector that waited or,
where its entry has ended, on the carrier vector. -/
def execBootstrapReady (e : Edge) (sg : SegId) (s : State) : Host.Outcome State Fault Refusal :=
  onVx s fun v => v.live e fun v =>
    let x := v.segs[sg]
    let w := if v.clk.edge < x.holdTo then x.want else v.carrierOf sg
    let v := v.modSeg sg fun x => { x with bstA := true, bstB := true, waitBst := false }
    if x.waitBst && x.phase == .dark then v.segDue sg v.boundary (.start w.1 w.2) else v

/-- BOOTSTRAP_TIMEOUT (07 R242): 512 CCLK have passed since the due edge; fault 0x0603 and the segment furls. -/
def execBootstrapTimeout (e : Edge) (sg : SegId) (s : State) : Host.Outcome State Fault Refusal :=
  onVx s fun v => v.live e fun v =>
    if v.segs[sg].waitBst && v.segs[sg].phase == .dark && decide (v.segs[sg].waitTo ≤ v.now) then
      (v.segFault 0x0603 sg (some 2)).furl sg
    else v

end Sys2Proof.Machine
end

