-- ==== Sys2Proof/Machine/MotionCommands.lean ====
section
/-! DEFINITION. The commands of Motion.lean: Flap motion, the motor bus and the egress plan (spec 12; 13 section 13.6): motor states and moves, edge
qualification, the brake chopper, the motion operations of 05 Table 5-7 and the egress sequencer's lanes. -/

namespace Sys2Proof.Machine

open Sys2Proof

/-! ## The motion update (12 R427) -/

/-- MOTOR_UPDATE (12 R427); on a motor of an egress lane it does nothing (12 R452). -/
def execMotorUpdate (i : Nat) (s : State) : Host.Outcome State Fault Refusal :=
  onVx s fun v => v.activity i 0x0301 fun e v =>
    e.motors.foldl (fun v n => v.leave (v.clk.t0 + e.last) (.motion n false)) v

/-- EGRESS_STEP (12 R443): a motion update of each named motor of an egress lane; a move that stands is carried on first. -/
def execEgressStep (i : Nat) (s : State) : Host.Outcome State Fault Refusal :=
  onVx s fun v => v.activity i 0x0304 fun e v =>
    e.motors.foldl (fun v n => v.leave (v.clk.t0 + e.last) (.motion n true)) v

/-- BRAKE_HOLD (12 R426): a motor that idles or moves brakes and then holds; an egress lane's motor does not (12 R443). -/
def execBrakeHold (i : Nat) (s : State) : Host.Outcome State Fault Refusal :=
  onVx s fun v => v.activity i 0x0302 fun e v =>
    e.motors.foldl (fun v n => if (v.egLane n).isSome then v else (v.voidMotor n).1.brake n stCancelled) v

/-! ## Hall edges (12 section 12.6) -/

/-- HALL_EDGE: a filtered change of the hall code of a motor in hall mode (12 R430). An open-loop fallback takes no edge. -/
def execHallEdge (e : Edge) (n : MotorId) (code : BitVec 3) (s : State) : Host.Outcome State Fault Refusal :=
  onVx s fun v => v.live e fun v =>
    let x := v.motors[n]
    if !v.hallMode n || code == x.hall then v
    else v.beforeUpdate n fun v => v.turning n 0 fun v =>
      let old := x.hall
      let v := v.modMotor n fun x => { x with hall := code }
      match x.st with
      | .disabled => v
      | .faultOff => if v.shortNow n && !validCode code then v.motorFault n 0x0903 else v
      | st =>
        if !validCode code then v.motionFault n 0x0903
        else if x.move.any (·.openLoop) then v
        else if st = .moving ∨ st = .braking then v.drivenEdge n code
        else v.restEdge n old code

/-- HALL_WINDOW_CLOSE (12 R433): the first miss extrapolates one edge; the second is fault 0x0902 or a creep stall. -/
def execHallWindowClose (e : Edge) (n : MotorId) (s : State) : Host.Outcome State Fault Refusal :=
  onVx s fun v => v.live e fun v =>
    let x := v.motors[n]
    if v.hallMode n && v.shortNow n then
      (if x.extra && x.window.any (fun w => decide (w.2.1 ≤ v.now)) then v.motorFault n 0x0902 else v)
    else if v.hallMode n && (x.st == .moving || x.st == .braking) && !(x.move.any (·.openLoop)) then
      v.beforeUpdate n fun v => v.turning n 0 fun v => match v.motors[n].window with
      | none => v
      | some (_, hi, pred) =>
        if v.now < hi then v
        else if x.extra then
          match x.st, x.move with
          | .moving, some mv => if v.creepStall n mv then v.stall n mv 0x0902 else v.motionFault n 0x0902
          | _, _ => v.motionFault n 0x0902
        else (v.countEdge n (v.codeAfter n x.fwd x.expect) pred true).modMotor n fun x => { x with corrected := some v.now }
    else v

/-- START_TIMEOUT (12 R432): no qualified edge within START_T of the move's start; as a creep stall where the motor stands
there (12 R458, log entry 22). -/
def execStartTimeout (e : Edge) (n : MotorId) (s : State) : Host.Outcome State Fault Refusal :=
  onVx s fun v => v.live e fun v =>
    let x := v.motors[n]
    match x.st, x.move with
    | .moving, some mv =>
      if v.hallMode n && !mv.openLoop && x.edges == 0 && decide (x.startAt + v.mf n 0x04 31 24 * velUnit ≤ v.now) then
        if v.creepStall n mv then v.stall n mv 0x0904 else v.motionFault n 0x0904
      else v
    | _, _ => v

/-- MOTION_UPDATE_TIMEOUT (12 R429): 40 slots without a motion update of a move. -/
def execMotionUpdateTimeout (e : Edge) (n : MotorId) (s : State) : Host.Outcome State Fault Refusal :=
  onVx s fun v => v.live e fun v =>
    let x := v.motors[n]
    if x.st == .moving && decide (x.updAt + 40 * slotLen ≤ v.now) then v.motionFault n 0x090A else v

/-- BRAKING_TIMEOUT (12 Table 12-4): 64 frames spent braking. -/
def execBrakingTimeout (e : Edge) (n : MotorId) (s : State) : Host.Outcome State Fault Refusal :=
  onVx s fun v => v.live e fun v =>
    let x := v.motors[n]
    if x.st == .braking && decide (x.brakeTicks + 64 ≤ v.clk.ticks) then v.motorTo n .hold else v

/-- MOTOR_SHORT (12 R418, R449): all six transistors off, fault-off, fault 0x0901; an egress lane is done (12 R444). -/
def execMotorShort (e : Edge) (n : MotorId) (s : State) : Host.Outcome State Fault Refusal :=
  onVx s fun v => v.live e fun v =>
    let v := (v.voidMotor n).1.modMotor n fun x => { x with cnt := vcount x.cnt 6 }
    (((v.motorTo n .faultOff).motorFault n 0x0901).endMove n stMotionFault 0x0901).laneDone n

/-- MOTOR_BOOTSTRAP_FAULT (12 R416): brake-hold on the low sides, fault 0x0906. -/
def execMotorBootstrapFault (e : Edge) (n : MotorId) (s : State) : Host.Outcome State Fault Refusal :=
  onVx s fun v => v.live e fun v =>
    if v.motors[n].st = .disabled ∨ v.motors[n].st = .faultOff then v
    else
      let v := (v.voidMotor n).1.modMotor n fun x => { x with cnt := vcount x.cnt 7 }
      let v := (((v.motorTo n .hold).motorFault n 0x0906).endMove n stMotionFault 0x0906).laneDone n
      v.modMotor n fun x => { x with lowHold := true }

/-- OPEN_LOOP_STEP (12 R424, R443, R444): one row of the table in the direction of motion. Mode 1 counts steps; an egress
stepping ends with its last step. -/
def execOpenLoopStep (e : Edge) (n : MotorId) (s : State) : Host.Outcome State Fault Refusal :=
  onVx s fun v => v.live e fun v =>
    match v.motors[n].st, v.motors[n].move with
    | .moving, some mv =>
      if mv.openLoop then v.turning n 0 fun v =>
        let v := v.modMotor n fun x =>
          { x with expect := v.codeAfter n x.fwd x.expect, edges := x.edges + 1, vLast := x.vset, tLast := some v.now,
                   pos := if v.motorMode n.val = 1 then (if x.fwd then x.pos + 1 else x.pos - 1) else x.pos,
                   move := some { mv with steps := mv.steps - 1 } }
        if v.motorMode n.val = 1 then (if v.reached n mv then v.arrive n else v)
        else if mv.steps ≤ 1 then v.arrive n else v
      else v
    | _, _ => v

/-- DIRECT_MODE_PIN (12 R423): a P or EN pin of a leg of a motor in mode 2. -/
def execDirectModePin (e : Edge) (n : MotorId) (leg : Fin 3) (en p : Bool) (s : State) : Host.Outcome State Fault Refusal :=
  onVx s fun v => v.live e fun v =>
    if v.motorMode n.val = 2 then v.turning n 4 fun v =>
      v.modMotor n fun x =>
        let m : BitVec 6 := oneHot 6 (2 * leg.val) ||| oneHot 6 (2 * leg.val + 1)
        let b : BitVec 6 := (if en then oneHot 6 (2 * leg.val) else 0) ||| (if p then oneHot 6 (2 * leg.val + 1) else 0)
        { x with pins := (x.pins &&& ~~~m) ||| b }
    else v

/-! ## The motor bus (12 section 12.7) -/

/-- CHOPPER_UPDATE (12 R438, 13 R465): `vbus` in 10 mV. -/
def execChopperUpdate (i : Nat) (vbus : Nat) (s : State) : Host.Outcome State Fault Refusal :=
  onVx s fun v => v.activity i 0x0303 fun e v => v.leave (v.clk.t0 + e.last) (.regen vbus)

/-- CHOPPER_COMPARATOR (12 R439, R440, R457). -/
def execChopperComparator (e : Edge) (vbus : Nat) (s : State) : Host.Outcome State Fault Refusal :=
  onVx s fun v => v.live e fun v =>
    let v := { v with mbus := { v.mbus with vbus := vbus } }
    if vbus < v.vOff then ({ v with mbus := { v.mbus with forced := false } } : Vexone).chopTo false
    else if v.vOn ≤ vbus && v.mbus.chopEn then v.chopTo true
    else v

/-- MBUS_OVER_VOLTAGE (12 R440, R451): VBUS (10 mV) at or above THR for DELAY. -/
def execMbusOverVoltage (e : Edge) (vbus : Nat) (s : State) : Host.Outcome State Fault Refusal :=
  onVx s fun v => v.live e fun v =>
    if 50 * v.mbus.thr ≤ vbus then
      let was := v.mbus.forced
      let v := { v with mbus := { v.mbus with vbus := vbus, forced := true, ovCount := satTo 0xFFFFFFFF (v.mbus.ovCount + 1) } }
      let v := (v.chopTo true).latchEv 0x0905 1 0x0901 (v.busPayload 0x0905 1)
      let v := if was then v else v.emit 0x0901 (v.busPayload 0 5)
      (List.finRange 4).foldl (fun v n =>
        if (v.egLane n).isSome then v
        else
          let st := v.motors[n].st
          let v := (v.voidMotor n).1
          if st = .idle ∨ st = .moving ∨ st = .braking then v.holdNow n stMotionFault 0x0905 else v) v
    else v

/-! ## Motion operations (05 Table 5-7) -/

/-- LANE_EGRESS (05 Table 5-7; 13 R478; 12 R453). DESIGN CHOICE: its DETAIL 'Lanes newly in egress' is their count, not their mask
(log entry 121). -/
def execLaneEgress (p : Place) (i : Nat) (s : State) : Host.Outcome State Fault Refusal :=
  onVx s fun v => v.runOp p i 0x1401 (fun _ _ => {}) fun v o e =>
    let (v, new, late) := v.judgeEgress ((o.arg 0).extractLsb' 0 4 &&& v.laneMask) 3
    v.done o e (countOnes new + (if late then 0x8000 else 0))

/-- MOTOR_STOP (05 Table 5-7, R188; 12 Table 12-4, R449): DETAIL 1 if the motor was moving. -/
def execMotorStop (p : Place) (i : Nat) (s : State) : Host.Outcome State Fault Refusal :=
  onVx s fun v => v.runOp p i 0x1402 (fun _ _ => {}) fun v o e =>
    let was := bit (v.motors[o.motor].st == .moving)
    let (v, late) := v.voidMotor o.motor
    (v.holdNow o.motor stCancelled 0).done o e (was + (if late then 0x8000 else 0))

/-- MOTOR_ENABLE (05 Table 5-7; 12 R418, R426). DESIGN CHOICE: with EN 0 it fails with ST_STATE on a motor in fault-off, from which
12 Table 12-4 has no transition for it (log entry 122). -/
def execMotorEnable (p : Place) (i : Nat) (s : State) : Host.Outcome State Fault Refusal :=
  onVx s fun v => v.runTick p i 0x1403
    (fun v o =>
      let st := v.motors[o.motor].st
      let en := o.a 0 0 0 = 1
      { undeclared := v.motorUndeclared o.target
        egress := v.eg.active
        prot := if en ∧ st = .faultOff ∧ v.latched 0x0901 o.target then some 0x0901 else none
        state := if ¬en ∧ (st = .moving ∨ st = .faultOff) then some 0 else none })
    fun _ o => (.motorEnable o.motor (o.a 0 0 0 = 1), 0)

/-- MOTOR_DRIVE (05 Table 5-7; 12 R414, R415). -/
def execMotorDrive (p : Place) (i : Nat) (s : State) : Host.Outcome State Fault Refusal :=
  onVx s fun v => v.runTick p i 0x1404
    (fun v o =>
      { undeclared := v.motorUndeclared o.target
        egress := v.eg.active
        state := if v.motors[o.motor].st = .hold ∨ v.motors[o.motor].st = .disabled then none else some 0 })
    fun _ o => (.motorDrive o.motor (o.a 0 4 0) (o.a 0 15 8), 0)

/-- FLAP_MOVE (05 Table 5-7; 12 R428): a span from the tick until the move ends. -/
def execFlapMove (p : Place) (i : Nat) (s : State) : Host.Outcome State Fault Refusal :=
  onVx s fun v => v.runOp p i 0x1405
    (fun v o =>
      { badArg := o.a 1 15 0 == 0 || o.a 1 31 16 == 0 || decide (v.openMax o.motor < o.a 0 15 0)
        undeclared := v.motorUndeclared o.target
        egress := v.eg.active
        prot := v.motorProt o.target [0x0901, 0x0902, 0x0903, 0x0904, 0x0906, 0x090A]
        state := if v.motors[o.motor].st = .idle ∧ v.motorMode o.target ≠ 2 ∧
                    (v.motorMode o.target ≠ 0 ∨ v.motors[o.motor].homed ∨ o.a 0 15 0 = 0) then none else some 0 })
    fun v o _ => v.pushDue o.place (.flapMove o.motor (o.a 0 15 0) (o.a 1 15 0) (o.a 1 31 16))

/-- MOTOR_BRAKE (05 Table 5-7). -/
def execMotorBrake (p : Place) (i : Nat) (s : State) : Host.Outcome State Fault Refusal :=
  onVx s fun v => v.runTick p i 0x1406
    (fun v o => { undeclared := v.motorUndeclared o.target, egress := v.eg.active })
    fun _ o => (.motorBrake o.motor, 0)

/-- MOTOR_RELEASE (05 Table 5-7; 16 Table 16-7). -/
def execMotorRelease (p : Place) (i : Nat) (s : State) : Host.Outcome State Fault Refusal :=
  onVx s fun v => v.runTick p i 0x1407
    (fun v o =>
      { undeclared := v.motorUndeclared o.target
        egress := v.eg.active
        prot := v.motorProt o.target [0x0901, 0x0902, 0x0903, 0x0904, 0x0906, 0x090A] })
    fun _ o => (.motorRelease o.motor, 0)

/-- MBUS_OV (05 Table 5-7, R169). -/
def execMbusOv (p : Place) (i : Nat) (s : State) : Host.Outcome State Fault Refusal :=
  onVx s fun v => v.runOp p i 0x1408
    (fun v o =>
      let thr := o.half 0 (o.a 0 7 0)
      { badArg := o.halves == 0 || thr.any (fun t => t < 40 || t > 132) || (o.half 1 (o.a 0 23 16)).any (· < 1)
        egress := v.eg.active
        late := if thr.any (fun t => 5 * t ≤ (v.mbusNom : Int)) then some (stLimit, 0) else none })
    fun v o e => (v.pairWrite .mbusOv (o.half 0 (o.a 0 7 0)) (o.half 1 (o.a 0 23 16))).done o e

/-- CHOPPER_SET (05 Table 5-7; 12 R439). -/
def execChopperSet (p : Place) (i : Nat) (s : State) : Host.Outcome State Fault Refusal :=
  onVx s fun v => v.runTick p i 0x1409 (fun v _ => { egress := v.eg.active })
    fun _ o => (.chopperSet (o.a 0 0 0 = 1), 0)

/-- EGRESS_ARM (05 Table 5-7; 13 R478). -/
def execEgressArm (p : Place) (i : Nat) (s : State) : Host.Outcome State Fault Refusal :=
  onVx s fun v => v.runTick p i 0x140A
    (fun v o => { undeclared := (o.arg 0).extractLsb' 0 4 &&& ~~~v.laneMask != 0, egress := v.eg.active })
    fun _ o => (.egressArm ((o.arg 0).extractLsb' 0 4), 0)

/-- EGRESS_DISARM (05 Table 5-7). -/
def execEgressDisarm (p : Place) (i : Nat) (s : State) : Host.Outcome State Fault Refusal :=
  onVx s fun v => v.runTick p i 0x140B (fun v _ => { egress := v.eg.active }) fun _ _ => (.egressDisarm, 0)

/-! ## The egress plan (12 section 12.8) -/

/-- EGRESS_LANE_START (12 R442, R443): at its start frame the lane's motor moves to EG_POS, or is done where it stands there
or cannot move. -/
def execEgressLaneStart (l : LaneId) (s : State) : Host.Outcome State Fault Refusal :=
  onVx s fun v =>
    match v.egLane l with
    | some x =>
      if v.alive && !x.begun && decide (x.start ≤ v.clk.ticks) then
        let v := (v.setLane l fun y => { y with begun := true }).evMotion l 3
        let m := v.motors[l]
        let mode := v.motorMode l.val
        let homing := mode = 0 && !m.homed
        if m.st = .disabled ∨ m.st = .faultOff ∨ v.motorUndeclared l.val then v.laneDone l
        else if m.fallback then v.fallBack l
        else if mode = 2 then
          if v.egPos l = 0 then v.laneDone l
          else v.startMove l { place := none, pos := v.egPos l, vmax := v.egVmax l, acc := v.egAcc l, homing := false,
                               steps := v.egPos l, openLoop := true } true
        else if !homing && decide ((v.egPos l : Int) ≤ m.pos) then v.laneDone l
        else v.startMove l { place := none, pos := v.egPos l, vmax := v.egVmax l, acc := v.egAcc l, homing := homing,
                             steps := 0, openLoop := mode = 1 } true
      else v
    | none => v

end Sys2Proof.Machine
end

