-- ==== Sys2Proof/Machine/RailsCommands.lean ====
section
/-! DEFINITION. The commands of Rails.lean: The field bus and the auxiliary rail (spec 11): adoption, slews, starts and stops, phase balance,
protections, SYNC_IN and the rail operations of 05 Table 5-5. -/

namespace Sys2Proof.Machine

open Sys2Proof

/-! ## The generator -/

/-- RAIL_UPDATE (11 R386): the rails of its tracks are measured, and adopt at its last edge. -/
def execRailUpdate (i : Nat) (vfb vax : Nat) (s : State) : Host.Outcome State Fault Refusal :=
  onVx s fun v => v.activity i 0x0201 fun e v =>
    [(RailId.fb, 16, vfb), (RailId.ax, 17, vax)].foldl (fun v x =>
      if e.tracks.getLsbD x.2.1 then
        (v.modRail x.1 fun y => { y with vout := x.2.2 }).leave (v.clk.t0 + e.last) (.adopt x.1)
      else v) v

def execSlewStep (k : Fin 40) (r : RailId) (s : State) : Host.Outcome State Fault Refusal :=
  onVx s fun v =>
    if v.alive && v.clk.ticking && decide (v.clk.edge ≤ slotLen * k.val) then
      (v.atEdge (slotLen * k.val)).slewStep r
    else v

/-- RAIL_DELAY_EXPIRY (11 Table 11-3): at the start edge a rail in delay ramps up from its measured output. -/
def execRailDelayExpiry (e : Edge) (r : RailId) (vout : Nat) (s : State) : Host.Outcome State Fault Refusal :=
  onVx s fun v => v.live e fun v =>
    if (v.rail r).st == .delay && decide ((v.rail r).delayTo ≤ v.now) then v.railStart r vout else v

/-! ## Phase balance (11 R384) -/

/-- BAL_UPDATE: `mA` gives the four field-bus phases, then the two auxiliary phases; the trims are written at its last edge. -/
def execBalUpdate (i : Nat) (mA : Vector Nat 6) (s : State) : Host.Outcome State Fault Refusal :=
  onVx s fun v => v.activity i 0x0202 fun e v =>
    [(RailId.fb, 16), (RailId.ax, 17)].foldl (fun v x =>
      if e.tracks.getLsbD x.2 then v.leave (v.clk.t0 + e.last) (.balance x.1 mA) else v) v

/-! ## Rail operations (05 Table 5-5) -/

/-- RAIL_SET (05 Table 5-5, R169, R175). -/
def execRailSet (p : Place) (i : Nat) (s : State) : Host.Outcome State Fault Refusal :=
  onVx s fun v => v.runOp p i 0x1301
    (fun v o =>
      let tgt := o.half 0 (o.a 0 15 0)
      let slew := o.half 1 (o.a 0 31 16)
      let (lo, hi) : Int × Int := if o.target = 0 then (200, 1400) else (100, 550)
      { badArg := o.halves == 0 || tgt.any (fun t => t < lo || t > hi) || slew.any (fun t => t < 5 || t > 500)
        undeclared := v.railUndeclared o.target
        late := if o.target = 0 && tgt.any (· > (v.fbusMax : Int)) then some (stLimit, 0) else none })
    fun v o e => (v.pairWrite (.railCmd o.rail) (o.half 0 (o.a 0 15 0)) (o.half 1 (o.a 0 31 16))).done o e

/-- RAIL_KILL (05 Table 5-5, R188; 11 Table 11-3, R406; 15 Table 15-3): every transistor off 16 CCLK after its start; pending starts are
voided. -/
def execRailKill (p : Place) (i : Nat) (s : State) : Host.Outcome State Fault Refusal :=
  onVx s fun v => v.runOp p i 0x1302 (fun _ _ => {}) fun v o e =>
    let was := bit (v.rail o.rail).switching
    let (v, late) := v.voidDue fun x => match x with | .railOn r _ => r == o.rail | .railRestart r => r == o.rail | _ => false
    (v.leave (v.now + 16) (.railKill o.rail)).done o e (was + (if late then 0x8000 else 0))

/-- RAIL_ON (05 Table 5-5; 11 R394, R405). -/
def execRailOn (p : Place) (i : Nat) (s : State) : Host.Outcome State Fault Refusal :=
  onVx s fun v => v.runTick p i 0x1303
    (fun v o =>
      { badArg := decide (39 < o.a 0 5 0)
        undeclared := v.railUndeclared o.target
        prot := v.railProt o.rail
        state := if (v.rail o.rail).st == .off || (v.rail o.rail).st == .otShut then none else some 0 })
    fun _ o => (.railOn o.rail (o.a 0 5 0), 0)

/-- RAIL_OFF (05 Table 5-5; 11 R405): in off, latched off and OT shutdown it changes nothing. -/
def execRailOff (p : Place) (i : Nat) (s : State) : Host.Outcome State Fault Refusal :=
  onVx s fun v => v.runOp p i 0x1304
    (fun v o =>
      { badArg := decide (39 < o.a 0 5 0)
        undeclared := v.railUndeclared o.target
        state := if o.target = 0 && v.unfurled != 0 then some 0 else none })
    fun v o e =>
      let x := (v.rail o.rail).st
      (if x == .off || x == .latched || x == .otShut then v else v.pushDue o.place (.railOff o.rail (o.a 0 5 0))).done o e

/-- RAIL_RESTART (05 Table 5-5; 11 R394, R404). -/
def execRailRestart (p : Place) (i : Nat) (s : State) : Host.Outcome State Fault Refusal :=
  onVx s fun v => v.runTick p i 0x1305
    (fun v o =>
      { undeclared := v.railUndeclared o.target
        prot := v.railProt o.rail
        state := if (v.rail o.rail).st == .latched then none else some 0 })
    fun _ o => (.railRestart o.rail, 0)

/-- RAIL_OT (05 Table 5-5, R169): SHUT at least 10 degrees C above WARN. -/
def execRailOt (p : Place) (i : Nat) (s : State) : Host.Outcome State Fault Refusal :=
  onVx s fun v => v.runOp p i 0x1306
    (fun v o =>
      let warn := o.half 0 (o.a 0 7 0)
      let shut := o.half 1 (o.a 0 15 8)
      let pd := v.pairPend (.ot o.rail)
      { badArg := o.halves == 0 || warn.any (fun t => t < 60 || t > 150) || shut.any (fun t => t < 70 || t > 160)
        undeclared := v.railUndeclared o.target
        late := if halfStands shut pd.h2 (v.rail o.rail).shut < halfStands warn pd.h1 (v.rail o.rail).warn + 10
                then some (stPairConflict, 0) else none })
    fun v o e => (v.pairWrite (.ot o.rail) (o.half 0 (o.a 0 7 0)) (o.half 1 (o.a 0 15 8))).done o e

/-- RAIL_SYNC (05 Table 5-5). -/
def execRailSync (p : Place) (i : Nat) (s : State) : Host.Outcome State Fault Refusal :=
  onVx s fun v => v.runTick p i 0x1307
    (fun v o =>
      { badArg := decide (o.a 0 26 16 < 500 ∨ 2000 < o.a 0 26 16)
        undeclared := v.railUndeclared o.target })
    fun _ o => (.railSync o.rail (o.a 0 0 0 = 1) (o.a 0 26 16), 0)

/-! ## Protections (11 Table 11-4) -/

/-- PEAK_LIMIT: counted, no fault. -/
def execPeakLimit (e : Edge) (r : RailId) (ph : PhaseId) (s : State) : Host.Outcome State Fault Refusal :=
  onVx s fun v => v.live e fun v =>
    if (v.rail r).switching && v.phaseOn r ph then v.modRail r fun x => { x with cnt := vcount x.cnt 0 } else v

/-- NEGATIVE_LIMIT: the phase's low side turns off for the rest of the cycle; 11 R399 gives it no counter. -/
def execNegativeLimit (e : Edge) (_r : RailId) (_ph : PhaseId) (s : State) : Host.Outcome State Fault Refusal :=
  onVx s fun v => v.live e fun v => v

/-- OVER_CURRENT_LATCH_OFF: LATCH_N limited cycles on one phase. -/
def execOverCurrentLatchOff (e : Edge) (r : RailId) (ph : PhaseId) (s : State) : Host.Outcome State Fault Refusal :=
  onVx s fun v => v.live e fun v =>
    if v.railTripable r && v.phaseOn r ph then
      (v.modRail r fun x => { x with cnt := vcount x.cnt 2 }).railTrip r .latched (ocCode r) ph.val 0
    else v

/-- HARD_SHORT: one crossing of twice ILIM. -/
def execHardShort (e : Edge) (r : RailId) (ph : PhaseId) (s : State) : Host.Outcome State Fault Refusal :=
  onVx s fun v => v.live e fun v =>
    if v.railTripable r && v.phaseOn r ph then
      (v.modRail r fun x => { x with cnt := vcount (vcount x.cnt 1) 2 }).railTrip r .latched (ocCode r) ph.val 0
    else v

/-- PULSE_TRUNCATION: counted while the output stands at or above the margin. -/
def execPulseTruncation (e : Edge) (r : RailId) (vout : Nat) (s : State) : Host.Outcome State Fault Refusal :=
  onVx s fun v => v.live e fun v =>
    if (v.rail r).switching && decide ((v.rail r).ref * (100 + v.trunc r) ≤ 400 * vout) then
      v.modRail r fun x => { x with cnt := vcount x.cnt 3, trunc := some v.clk.ticks }
    else v

/-- OUTPUT_OVER_VOLTAGE: twice the margin and 0.5 V above the reference, held for 64 us; fault 0x0805. -/
def execOutputOverVoltage (e : Edge) (r : RailId) (vout : Nat) (s : State) : Host.Outcome State Fault Refusal :=
  onVx s fun v => v.live e fun v =>
    let x := v.rail r
    if x.switching && decide (x.ref * (100 + 2 * v.trunc r) ≤ 400 * vout ∧ x.ref + 2000 ≤ 4 * vout) then
      (v.modRail r fun x => { x with cnt := vcount x.cnt 2, vout := vout }).railTrip r .latched 0x0805 0xFF 0
    else v

/-- INPUT_UNDER_VOLTAGE: VBUS (10 mV) below 6.5 V for 2 us; switching rails latch off with 0x0807. -/
def execInputUnderVoltage (e : Edge) (vbus : Nat) (s : State) : Host.Outcome State Fault Refusal :=
  onVx s fun v => v.live e fun v =>
    if vbus < 650 then
      let v := { v with mbus := { v.mbus with uvlo := true, vbus := vbus } }
      [RailId.fb, RailId.ax].foldl (fun v r =>
        if v.railTripable r then
          (v.modRail r fun x => { x with cnt := vcount x.cnt 2 }).railTrip r .latched 0x0807 0xFF 0
        else v) v
    else v

/-- INPUT_UNDER_VOLTAGE_CLEAR: VBUS rises through 7.0 V (16 R551). -/
def execInputUnderVoltageClear (e : Edge) (vbus : Nat) (s : State) : Host.Outcome State Fault Refusal :=
  onVx s fun v => v.live e fun v =>
    if 700 ≤ vbus then { v with mbus := { v.mbus with uvlo := false, risen := true, vbus := vbus } } else v

/-! ## SYNC_IN (01 R41; 11 R397, R398) -/

/-- SYNC_IN_LOSS: no rising edge for 4 us while synchronisation is enabled on a rail; fault 0x0106, EV_CLOCK kind 2. -/
def execSyncInLoss (e : Edge) (s : State) : Host.Outcome State Fault Refusal :=
  onVx s fun v => v.live e fun v =>
    if (v.fb.syncEn || v.ax.syncEn) && !v.clk.syncLost then
      let v := if v.clk.syncGood then v.glideAll else v
      let v := { v with clk := { v.clk with syncLost := true, syncOut := false, syncf := 0 } }
      (v.latchRaw 0x0106 1).emit 0x0102 (payload [(2, 0x0106), (1, 2), (1, bit v.clk.backup), (4, v.clk.frame.toNat)])
    else { v with clk := { v.clk with syncf := 0, syncOut := false } }

/-- SYNC_IN_RETURN: the 16th consecutive edge in range, from which a rail with SYNC_EN glides to it; EV_CLOCK kind 3 after a loss.
A frequency followed already is followed as it changes. -/
def execSyncInReturn (e : Edge) (khz : Nat) (s : State) : Host.Outcome State Fault Refusal :=
  onVx s fun v => v.live e fun v =>
    if 500 ≤ khz && khz ≤ 2000 then
      let lost := v.clk.syncLost
      let v := if v.clk.syncGood then v else v.glideAll
      let v := { v with clk := { v.clk with syncLost := false, syncOut := false, syncf := khz } }
      if lost then v.emit 0x0102 (payload [(2, 0), (1, 3), (1, bit v.clk.backup), (4, v.clk.frame.toNat)]) else v
    else v

/-- SYNC_IN_OUT_OF_RANGE: measured and not followed; each rail with SYNC_EN glides and records 0x0808 once while the
condition lasts. Edges below 250 kHz are a loss (01 R41). -/
def execSyncInOutOfRange (e : Edge) (khz : Nat) (s : State) : Host.Outcome State Fault Refusal :=
  onVx s fun v => v.live e fun v =>
    if (250 ≤ khz && khz < 500) || 2000 < khz then
      let was := v.clk.syncOut
      let v := if v.clk.syncGood then v.glideAll else v
      let v := { v with clk := { v.clk with syncOut := true, syncf := satTo 2047 khz } }
      if was then v
      else
        [RailId.fb, RailId.ax].foldl (fun v r =>
          if (v.rail r).syncEn then v.latchEv 0x0808 (oneHot 16 r.num) 0x0801 (v.railPayload r 0x0808 0xFF 0) else v) v
    else v

end Sys2Proof.Machine
end

