-- ==== Sys2Proof/Machine/ReservoirCommands.lean ====
section
/-! DEFINITION. The commands of Reservoir.lean: The egress reservoir, the mains and the barrier (spec 13; 16 R550 to R554): charger, balancers, reservoir
protections, the sense-line diagnostic, the primary die, and the egress sequencer's causes and end. -/

namespace Sys2Proof.Machine

open Sys2Proof

/-! ## Activities -/

/-- CHG_UPDATE (13 R463): the pass element off, and the sample 192 CCLK after its start. -/
def execChgUpdate (i : Nat) (d : ScanData) (s : State) : Host.Outcome State Fault Refusal :=
  onVx s fun v => v.activity i 0x0203 fun e v =>
    ({ v with res := { v.res with offTo := v.clk.t0 + e.start + 224 } } : Vexone).leave (v.clk.t0 + e.start + 192) (.chgSample d)

/-- SENSE_DIAG (13 R470, R490): samples A and B of the lines; a line is open where they differ by 50 mV or more, which the next
window judges. -/
def execSenseDiag (i : Nat) (sa sb : Vector Nat 7) (s : State) : Host.Outcome State Fault Refusal :=
  onVx s fun v => v.activity i 0x0204 fun e v =>
    let openL : BitVec 7 := maskOf 7 fun k => decide (50 ≤ dist (sa.toList.getD k 0) (sb.toList.getD k 0))
    { v with res := { v.res with frozen := v.chgTarget, diagTo := v.clk.t0 + e.start + 43391, verdict := some openL } }

/-- PROT_SCAN (02 R65; 13 R463, R467; 16 R552): cells and charger current, VBUS, the rails' outputs. -/
def execProtScan (i : Nat) (d : ScanData) (s : State) : Host.Outcome State Fault Refusal :=
  onVx s fun v => v.activity i 0x0401 fun _ v =>
    let v : Vexone := { v with
      res := { v.res with cells := cellReadings d.lines, chgMa := 100 * (d.isn - d.lines[6]) / v.rSense }
      mbus := { v.mbus with vbus := d.vbus }
      fb := { v.fb with vout := d.vfb }
      ax := { v.ax with vout := d.vax } }
    let v := if v.res.cells.toList.all (· < 2850) then { v with res := { v.res with ovInit := false } } else v
    v.cellOverVoltage.cellShort

/-- STACK_LOW (13 Table 13-2): below RES_MIN for 64 frames with the mains present and the charger on. -/
def execStackLow (e : Edge) (s : State) : Host.Outcome State Fault Refusal :=
  onVx s fun v => v.live e fun v =>
    if v.stackLow && decide (64 ≤ v.res.lowRun) then
      let v := { v with res := { v.res with ready := false, cnt := vcount v.res.cnt 5 } }
      v.resFaultEv 0x0A06 1 0
    else v

/-! ## Reservoir operations (05 Table 5-6) -/

/-- CHG_SET (05 Table 5-6; 13 R460). -/
def execChgSet (p : Place) (i : Nat) (s : State) : Host.Outcome State Fault Refusal :=
  onVx s fun v => v.runTick p i 0x1601
    (fun v o =>
      { badArg := decide (o.a 0 9 0 < 20 ∨ 500 < o.a 0 9 0 ∨ o.a 0 24 16 < 200 ∨ 285 < o.a 0 24 16)
        undeclared := v.chgUndeclared })
    fun _ o => (.chgSet (o.a 0 9 0) (o.a 0 24 16), 0)

/-- CHG_ON (05 Table 5-6; 16 R552). -/
def execChgOn (p : Place) (i : Nat) (s : State) : Host.Outcome State Fault Refusal :=
  onVx s fun v => v.runTick p i 0x1602
    (fun v _ =>
      { undeclared := v.chgUndeclared
        prot := firstSome [if v.res.ovInit then some 0x0A01 else none, resFaults.find? v.anyLatched]
        state := if v.res.on then some 0 else none })
    fun _ _ => (.chgOn, 0)

/-- CHG_OFF (05 Table 5-6). -/
def execChgOff (p : Place) (i : Nat) (s : State) : Host.Outcome State Fault Refusal :=
  onVx s fun v => v.runTick p i 0x1603 (fun v _ => { undeclared := v.chgUndeclared }) fun _ _ => (.chgOff, 0)

/-- CHG_KILL (05 Table 5-6, R188; 15 Table 15-3): the pass element off 16 CCLK after its start. -/
def execChgKill (p : Place) (i : Nat) (s : State) : Host.Outcome State Fault Refusal :=
  onVx s fun v => v.runOp p i 0x1604 (fun _ _ => {}) fun v o e =>
    let was := bit v.res.on
    let (v, late) := v.voidDue fun x => match x with | .chgOn => true | _ => false
    (v.leave (v.now + 16) .chgKill).done o e (was + (if late then 0x8000 else 0))

/-- BAL_SET (05 Table 5-6). -/
def execBalSet (p : Place) (i : Nat) (s : State) : Host.Outcome State Fault Refusal :=
  onVx s fun v => v.runTick p i 0x1605
    (fun v o => { badArg := decide (o.a 0 15 8 < 5 ∨ 100 < o.a 0 15 8), undeclared := v.chgUndeclared })
    fun _ o => (.balSet (o.a 0 0 0 = 1) (o.a 0 15 8), 0)

/-! ## The mains as the secondary die knows it (13 R473 to R477, R488) -/

/-- P_STAT (13 R473 to R477): the first one after power-up gives PRI_ON its value (13 R476, 16 R548). -/
def execPStat (e : Edge) (msg : PStatMsg) (s : State) : Host.Outcome State Fault Refusal :=
  onVx s fun v => v.live e fun v =>
    if !msg.good then v
    else
      let w : Word := BitVec.ofNat 32 (bit msg.priEn)
      let v := if v.mains.seen then v else (v.setWritten 0x08E0 w).setForce 0x08E0 w
      let rep := if msg.brownOut then 1 else if msg.present then 0 else 2
      let m := v.mains
      let relink := if rep = 0 then m.relink else 0
      let v := { v with mains := { m with
        dc := msg.dc, priEn := msg.priEn, lost := false, statAt := v.now, relink := relink, seen := true,
        cnt := if msg.priEn && !m.priEn then vcount m.cnt 7 else m.cnt } }
      let v := if relink = 0 then v.mainsTo rep else v
      let was := m.ov
      let v := { v with mains := { v.mains with ov := msg.overVoltage } }
      if msg.overVoltage && !was then
        ({ v with mains := { v.mains with cnt := vcount v.mains.cnt 2 } } : Vexone).mainsFault 0x0B03
      else v

/-- P_MEAS (13 Table 13-6): peak in 2 V, half-period in 10 us; after a link loss 16 half-cycles at 115 V are wanted (13 R488,
log entry 23). -/
def execPMeas (e : Edge) (peak halfPeriod : Byte) (good : Bool) (s : State) : Host.Outcome State Fault Refusal :=
  onVx s fun v => v.live e fun v =>
    if !good then v
    else
      let m := v.mains
      let pk := 2 * peak.toNat
      let relink := if m.relink = 0 ∨ m.lost then m.relink else if 115 ≤ pk then m.relink - 1 else 16
      let v := { v with mains := { m with peak := pk, half := halfPeriod.toNat, relink := relink, cnt := vcount m.cnt 4 } }
      if m.relink ≠ 0 ∧ relink = 0 then v.mainsTo 0 else v

/-- BARRIER_LINK_LOSS (13 R474, R488): no good P_STAT for 500 us, 108,480 CCLK: fault 0x0B04; with the mains last reported present it counts as a loss. -/
def execBarrierLinkLoss (e : Edge) (s : State) : Host.Outcome State Fault Refusal :=
  onVx s fun v => v.live e fun v =>
    if v.mains.lost || decide (v.now < v.mains.statAt + 108480) then v
    else
      let was := v.mains.st
      let v : Vexone := { v with mains := { v.mains with lost := true, st := 2, relink := 16, cnt := vcount v.mains.cnt 3 } }
      let v := v.mainsFault 0x0B04
      if was = 0 then v.becomeAbsent else v

/-! ## EGRESS_N and the sequencer's end (13 R478 to R480) -/

/-- EGRESS_N_ASSERT: low for 2,048 CCLK after having been high, with a lane armed (13 R478; 16 R554). -/
def execEgressNAssert (e : Edge) (s : State) : Host.Outcome State Fault Refusal :=
  onVx s fun v => v.live e fun v =>
    if v.eg.nHigh && v.eg.armed != 0 then
      let (v, _, _) := ({ v with eg := { v.eg with nHigh := false } } : Vexone).judgeEgress v.eg.armed 2
      v
    else v

/-- EGRESS_N_RISE (13 R478). -/
def execEgressNRise (e : Edge) (s : State) : Host.Outcome State Fault Refusal :=
  onVx s fun v => v.live e fun v => { v with eg := { v.eg with nHigh := true } }

/-- EGRESS_STOP (13 R479, R480, R486): the sequencer stops, the quiet selection is set, reservoir hold begins while the mains
is absent. -/
def execEgressStop (s : State) : Host.Outcome State Fault Refusal :=
  onVx s fun v =>
    if v.alive && v.eg.active && v.eg.stopDue then
      let lanes := v.eg.lanes
      let e := v.eg.eFrame
      let v : Vexone := { v with eg := { v.eg with active := false, plan := [], stopDue := false }
                                 sch := { v.sch with quietSel := true, run := .quiet }
                                 motors := v.motors.map fun m => { m with fallback := false } }
      let hold := v.mainsAbsent
      let v := if hold then v.enterHold else v
      v.emit 0x0B02 (payload [(1, 4), (1, lanes.toNat), (4, e.toNat), (1, bit hold)])
    else v

/-! ## The primary die (13 R472 to R475) -/

/-- S_CMD (13 R473, R474): a message that fails its CRC is ignored. -/
def execSCmd (priOn good : Bool) (s : State) : Host.Outcome State Fault Refusal :=
  onPri s fun p => if good then ({ p with priOn := priOn, dark := false } : Primary).judge else p

/-- SECONDARY_DARK (13 R474, R475). -/
def execSecondaryDark (s : State) : Host.Outcome State Fault Refusal :=
  onPri s fun p => ({ p with dark := true } : Primary).judge

/-- MAINS_LOSS (13 Table 13-5, R475). -/
def execMainsLoss (s : State) : Host.Outcome State Fault Refusal :=
  onPri s fun p => ({ p with st := .absent, ov := false } : Primary).judge

/-- MAINS_BROWN_OUT (13 Table 13-5): a brown-out counts as absence; a mains that is absent stays so. -/
def execMainsBrownOut (s : State) : Host.Outcome State Fault Refusal :=
  onPri s fun p => if p.st = .present then ({ p with st := .brownOut } : Primary).judge else p

/-- MAINS_PRESENT (13 Table 13-5, R472): the half-cycle peak in V reaches 115; a half-period, in 10 us, is clamped to
7.58-11.11 ms. -/
def execMainsPresent (dc : Bool) (peak halfPeriod : Nat) (s : State) : Host.Outcome State Fault Refusal :=
  onPri s fun p =>
    if 115 ≤ peak then
      ({ p with st := .present, dc := dc, peak := peak
                half := if dc then 0 else min 1111 (max 758 halfPeriod) } : Primary).judge
    else p

/-- MAINS_OVER_VOLTAGE (13 Table 13-5; 19 R660): reported only. -/
def execMainsOverVoltage (s : State) : Host.Outcome State Fault Refusal :=
  onPri s fun p => { p with ov := true }

/-- PRIMARY_POWER_ON (13 R472, R475; 16 R550): absent, PRI_EN deasserted. -/
def execPrimaryPowerOn (s : State) : Host.Outcome State Fault Refusal :=
  onPri s fun _ => Primary.reset

end Sys2Proof.Machine
end

