-- ==== Sys2Proof/Machine/FansCommands.lean ====
section
/-! DEFINITION. The commands of Fans.lean: Temperature and fans (spec 14; the over-temperature guard of 11 Table 11-4; 16 R553): thermistors and die
sensors, fan modes, tach, forced full speed, the fan watchdog, and the operations of 05 Table 5-8a. -/

namespace Sys2Proof.Machine

open Sys2Proof

/-! ## FAN_UPDATE (14 R499 to R503) -/

/-- FAN_UPDATE: the duty, the tach and the rows at its last edge (15 Table 15-1). -/
def execFanUpdate (i : Nat) (s : State) : Host.Outcome State Fault Refusal :=
  onVx s fun v => v.activity i 0x0205 fun e v =>
    e.fans.foldl (fun v c => v.leave (v.clk.t0 + e.last) (.fanUpdate c)) v

/-- TACH_EDGE (14 R502): a counted falling edge, timestamped. -/
def execTachEdge (e : Edge) (c : FanId) (s : State) : Host.Outcome State Fault Refusal :=
  onVx s fun v => v.live e fun v =>
    v.modFan c fun f => { f with edge2 := f.edge1, edge1 := some v.now, cnt := vcount f.cnt 0 }

/-- FAN_WATCHDOG_EXPIRY (14 R505): the tick emptied the counter; every declared fan is forced at edge 16, fault 0x0C03. -/
def execFanWatchdogExpiry (s : State) : Host.Outcome State Fault Refusal :=
  onVx s fun v =>
    if v.alive && v.fwd.due then
      let v : Vexone := { v.atEdge 16 with fwd := { v.fwd with due := false } }
      let v : Vexone := { v with fans := v.fans.map fun f => { f with cnt := vcount f.cnt 4 } }
      (v.latchEv 0x0C03 1 0x0C01 (allFansPayload 0x0C03)).forceFans 1 none
    else v

/-! ## THERM_SCAN (14 R493 to R495; 11 Table 11-4; 16 R553) -/

/-- THERM_SCAN: its conversions stand and its guards act at its end. -/
def execThermScan (i : Nat) (codes : Vector (BitVec 12) 8) (die : Vector Int 4) (s : State) : Host.Outcome State Fault Refusal :=
  onVx s fun v => v.activity i 0x0402 fun e v => v.leave (v.clk.t0 + e.last) (.thermEnd codes die)

/-! ## Fan and thermistor operations (05 Table 5-8a) -/

/-- FAN_ROW (05 Table 5-8a, R169). -/
def execFanRow (p : Place) (i : Nat) (s : State) : Host.Outcome State Fault Refusal :=
  onVx s fun v => v.runOp p i 0x1501
    (fun v o =>
      let temp := o.half 0 (signed 8 (o.a 0 15 8))
      { badArg := o.halves == 0 || temp.any (fun t => t < -40 || t > 125) || (o.half 1 (o.a 0 23 16)).any (· > 100)
        undeclared := v.fanUndeclared o.target })
    fun v o e =>
      (v.pairWrite (.fanRow o.fan (Fin.ofNat 8 (o.a 0 2 0)))
        (o.half 0 (signed 8 (o.a 0 15 8))) (o.half 1 (o.a 0 23 16))).done o e

/-- FAN_MODE (05 Table 5-8a). -/
def execFanMode (p : Place) (i : Nat) (s : State) : Host.Outcome State Fault Refusal :=
  onVx s fun v => v.runTick p i 0x1502
    (fun v o =>
      { badArg := o.a 0 1 0 == 3 || decide (100 < o.a 0 15 8)
        undeclared := v.fanUndeclared o.target || (o.arg 0).extractLsb' 16 8 &&& ~~~v.declTherms != 0 })
    fun _ o => (.fanMode o.fan (o.a 0 1 0) (o.a 0 15 8) ((o.arg 0).extractLsb' 16 8), 0)

/-- FAN_HYST (05 Table 5-8a). -/
def execFanHyst (p : Place) (i : Nat) (s : State) : Host.Outcome State Fault Refusal :=
  onVx s fun v => v.runTick p i 0x1503
    (fun v o =>
      { badArg := decide (o.a 0 4 0 < 1 ∨ 20 < o.a 0 4 0)
        undeclared := v.fanUndeclared o.target })
    fun _ o => (.fanHyst o.fan (o.a 0 4 0), 0)

/-- FAN_TACH (05 Table 5-8a). -/
def execFanTach (p : Place) (i : Nat) (s : State) : Host.Outcome State Fault Refusal :=
  onVx s fun v => v.runTick p i 0x1504
    (fun v o =>
      { badArg := decide (20000 < o.a 0 15 0 ∨ o.a 0 23 16 < 1)
        undeclared := v.fanUndeclared o.target })
    fun _ o => (.fanTach o.fan (o.a 0 15 0) (o.a 0 23 16), 0)

/-- FAN_WDOG (05 Table 5-8a; 14 R505). -/
def execFanWdog (p : Place) (i : Nat) (s : State) : Host.Outcome State Fault Refusal :=
  onVx s fun v => v.runTick p i 0x1505 (fun _ o => { badArg := o.a 0 15 0 == 1 })
    fun _ o => (.fanWdog (o.a 0 15 0), 0)

/-- FAN_RESTORE (05 Table 5-8a; 14 R504, R509). -/
def execFanRestore (p : Place) (i : Nat) (s : State) : Host.Outcome State Fault Refusal :=
  onVx s fun v => v.runTick p i 0x1506 (fun v _ => { prot := v.forceCause }) fun _ _ => (.fanRestore, 0)

/-- THERM_SET (05 Table 5-8a). -/
def execThermSet (p : Place) (i : Nat) (s : State) : Host.Outcome State Fault Refusal :=
  onVx s fun v => v.runTick p i 0x1507
    (fun v o =>
      { badArg := decide (o.a 0 15 0 < 2000 ∨ 6000 < o.a 0 15 0)
        undeclared := !v.declTherms.getLsbD o.target })
    fun _ o => (.thermSet (Fin.ofNat 8 o.target) (o.a 0 15 0), 0)

end Sys2Proof.Machine
end

