-- ==== Sys2Proof/Machine/HalyardCommands.lean ====
section
/-! DEFINITION. The commands of Halyard.lean: The Halyard (spec 03): claims, handover, release, takeover, the owner watchdog and owner loss. -/

namespace Sys2Proof.Machine

open Sys2Proof

/-! ## Commands (03 Tables 3-4, 3-5) -/

/-- CLAIM: at the edge at which its access is served. -/
def execClaim (e : Edge) (m : Master) (tag : BitVec 16) (s : State) : Host.Outcome State Fault Refusal :=
  onVx s fun x => x.access e m fun x => x.claim m tag

/-- RELEASE: at the edge at which its access is served. -/
def execRelease (e : Edge) (m : Master) (s : State) : Host.Outcome State Fault Refusal :=
  onVx s fun x => x.access e m fun x => x.release m

/-- OFFER: at the edge at which its access is served. -/
def execOffer (e : Edge) (m : Master) (target : BitVec 2) (s : State) : Host.Outcome State Fault Refusal :=
  onVx s fun x => x.access e m fun x => x.offer m target

/-- WITHDRAW: at the edge at which its access is served. -/
def execWithdraw (e : Edge) (m : Master) (s : State) : Host.Outcome State Fault Refusal :=
  onVx s fun x => x.access e m fun x => x.withdraw m

/-- ACCEPT: at the edge at which its access is served. -/
def execAccept (e : Edge) (m : Master) (tag : BitVec 16) (s : State) : Host.Outcome State Fault Refusal :=
  onVx s fun x => x.access e m fun x => x.accept m tag

/-- DECLINE: at the edge at which its access is served. -/
def execDecline (e : Edge) (m : Master) (s : State) : Host.Outcome State Fault Refusal :=
  onVx s fun x => x.access e m fun x => x.decline m

/-- TAKEOVER: at the edge at which its access is served. -/
def execTakeover (e : Edge) (m : Master) (tag : BitVec 16) (s : State) : Host.Outcome State Fault Refusal :=
  onVx s fun x => x.access e m fun x => x.takeover m tag

/-- HAL_CMD_UNDEFINED: at the edge at which its access is served. -/
def execHalCmdUndefined (e : Edge) (m : Master) (cmd : BitVec 8) (s : State) : Host.Outcome State Fault Refusal :=
  onVx s fun x => x.access e m fun x => x.halUndefined m cmd

/-- HAL_KICK: at the edge at which its access is served. -/
def execHalKick (e : Edge) (m : Master) (s : State) : Host.Outcome State Fault Refusal :=
  onVx s fun x => x.access e m fun x => x.kick m

/-- OWD_LIMIT_WRITE: at the edge at which its access is served. -/
def execOwdLimitWrite (e : Edge) (m : Master) (be : BitVec 4) (w : Word) (s : State) : Host.Outcome State Fault Refusal :=
  onVx s fun x => x.access e m fun x => x.writeLimit m be w

/-- OFFER_EXPIRY (03 Table 3-5): 64 frames without ACCEPT. -/
def execOfferExpiry (s : State) : Host.Outcome State Fault Refusal :=
  onVx s fun v =>
    match v.hal.st with
    | .offered o n 0 =>
      if v.alive then
        let v := (v.endOffer o n 2).voidOffer o
        (v.latchRaw 0x0306 (oneHot 16 o.idx.val)).emit 0x0301 (v.halPayload 2 1 none 3 0)
      else v
    | _ => v

/-! ## Owner loss (03 R103 to R105) -/

/-- OWNER_WATCHDOG_EXPIRY: the tick emptied the counter. -/
def execOwnerWatchdogExpiry (s : State) : Host.Outcome State Fault Refusal :=
  onVx s fun v =>
    match v.hal.owner with
    | some m => if v.alive && v.hal.count == 0 then v.ownerLoss m 1 else v
    | none => v

end Sys2Proof.Machine
end

