-- ==== Sys2Proof/Machine/ImagesCommands.lean ====
section
/-! DEFINITION. The commands of Images.lean: Images (spec 02): their format, the proof pass of Table 2-8 in the order of section 2.5, loads, swaps, key
slots and diagnostic requests (05 Table 5-9). -/

namespace Sys2Proof.Machine

open Sys2Proof

/-! ## Loads (02 R72 to R74, R82; 17 R591) -/

/-- IMAGE_LOAD_START: at the edge at which its access is served. -/
def execImageLoadStart (e : Edge) (m : Master) (w : Word) (s : State) : Host.Outcome State Fault Refusal :=
  onVx s fun x => x.access e m fun x => x.startLoad m w

/-- IMAGE_LOAD_DATA (02 R74, 04 R134, 17 R591): data in several completions leave the rest of the read outstanding; what the
request did not ask for is none of the image. -/
def execImageLoadData (e : Edge) (rid : Nat) (bytes : List Byte) (s : State) : Host.Outcome State Fault Refusal :=
  onVx s fun v => v.live e fun v =>
    match v.reads.find? (fun r => r.rid == rid), v.img.load with
    | some r, some ld =>
      match r.kind with
      | .image ofs len =>
        let part := bytes.take len
        let n := part.length
        let got := v.img.fetched + n
        { v with
          reads := (v.reads.filter fun x => x.rid != rid) ++
            (if n < len then [{ r with kind := .image (ofs + n) (len - n) }] else [])
          img := { v.img with
            standby := { v.img.standby with raw := splice v.img.standby.raw ofs part }
            fetched := got
            proof := if got = ld.len && v.img.proof == .fetching then .checking else v.img.proof } }
      | _ => v
    | _, _ => v

/-- IMAGE_LOAD_READ_ERROR (04 R134). -/
def execImageLoadReadError (e : Edge) (rid : Nat) (s : State) : Host.Outcome State Fault Refusal :=
  onVx s fun v => v.live e fun v =>
    match v.reads.find? (fun r => r.rid == rid) with
    | some r => match r.kind with
      | .image _ _ => v.failLoad
      | _ => v
    | none => v

/-- PROOF_RESULT (02 R70 to R73; log entry 25): at the tick that ends the count. -/
def execProofResult (s : State) : Host.Outcome State Fault Refusal :=
  onVx s fun v =>
    match v.img.load with
    | some ld =>
      if v.alive && v.clk.ticking && v.clk.edge == 0 && v.img.proof == .checking &&
          decide (ld.start + v.proofFrames ld + 1 ≤ v.clk.ticks) then
        let v := ({ v with img := { v.img with load := none } } : Vexone).noteId
        match proofReject v.img.standby.raw ld.len s.otp with
        | some r => v.rejectImage r
        | none =>
          ({ v with img := { v.img with proof := .passed, code := 0, tpl := 0xFFFF, entry := 0xFFFF,
                                        standby := { v.img.standby with image := some (imageOf v.img.standby.raw) } } } : Vexone).proofEvent
      else v
    | none => v

/-! ## Swaps (02 R76, R77) -/

/-- IMAGE_SWAP (02 R76): the next bench, or the one after when it executes at edge 200,000 or later of a bench's last
frame. -/
def execImageSwap (p : Place) (i : Nat) (s : State) : Host.Outcome State Fault Refusal :=
  onVx s fun v => v.runOp p i 0x1801 (fun v _ => { late := v.swapRefusal.map fun d => (stImageRefused, d) })
    fun v o _ =>
      let b := benchOf v.clk.frame + (if v.clk.frame.toNat % 64 = 63 && 200000 ≤ v.clk.edge then 2 else 1)
      { v with img := { v.img with swap := some { place := o.place, bench := b % 2 ^ 26 } } }

/-! ## Key slots (05 R181, R182) -/

/-- KEY_FUSE. -/
def execKeyFuse (p : Place) (i : Nat) (s : State) : Host.Outcome State Fault Refusal :=
  onVx s fun v => v.runOp p i 0x1802
    (fun v o =>
      { badArg := o.arg 8 != keyMagic
        late := if s.otp.slots[o.slot].st == .empty && !v.img.fusing.any (fun f => f.slot == o.slot) then none
                else some (stKeySlot, 0) })
    fun v o _ =>
      { v with img := { v.img with fusing := v.img.fusing ++
          [{ place := o.place, slot := o.slot, hash := ofWords ((List.range 8).map o.arg) }] } }

/-- KEY_FUSE_READBACK: the oldest fusing slot as read back. A slot whose hash is all zero stays empty (02 R68); a slot that
is not empty keeps what it holds, as one-time cells do. -/
def execKeyFuseReadback (hash : Vector Byte 32) (s : State) : Host.Outcome State Fault Refusal :=
  match s.vx.img.fusing with
  | f :: rest =>
    if s.vx.alive then
      let v : Vexone := { s.vx with img := { s.vx.img with fusing := rest } }
      let good := decide (hash.toList = f.hash)
      let st : SlotSt := if !good then .revoked else if allZero hash.toList then .empty else .fused
      let otp : Otp := if s.otp.slots[f.slot].st = .empty then { slots := s.otp.slots.set f.slot { st := st, hash := hash } }
        else s.otp
      if good then .next { s with otp := otp, vx := v.complete f.place stOk 0 }
      else .next { s with otp := otp, vx := (v.latchF 0x0219 f.slot.val).complete f.place stTestFail 0x0219 }
    else .next s
  | [] => .next s

/-- KEY_REVOKE. -/
def execKeyRevoke (p : Place) (i : Nat) (s : State) : Host.Outcome State Fault Refusal :=
  onVx s fun v => v.runTick p i 0x1803
    (fun v o =>
      { badArg := o.arg 8 != keyMagic
        late := if s.otp.slots[o.slot].st != .fused || v.active.any (fun im => im.keySlot == o.slot.val) then some (stKeySlot, 0)
                else none })
    fun _ o => (.keyRevoke o.slot, 0)

/-! ## Diagnostics (05 Table 5-9) -/

/-- DIAG_START. -/
def execDiagStart (p : Place) (i : Nat) (s : State) : Host.Outcome State Fault Refusal :=
  onVx s fun v => v.runOp p i 0x1901
    (fun v o =>
      let t := o.a 0 7 0
      { badArg := !(t == 1 || t == 2 || t == 3) || (t == 1 && 16 ≤ o.target) || (t == 2 && o.target != 0) || (t == 3 && 4 ≤ o.target)
        undeclared := if t = 1 then !v.declSegs.getLsbD o.target else if t = 2 then !v.declRails.getLsbD 2
                      else !v.declFans.getLsbD o.target })
    fun v o _ => { v with diags := v.diags ++ [{ place := o.place, test := o.a 0 7 0, unit := o.target, ticks := v.clk.ticks }] }

/-- DIAG_NO_ACTIVITY: 64 frames without a matching activity. -/
def execDiagNoActivity (p : Place) (s : State) : Host.Outcome State Fault Refusal :=
  onVx s fun v =>
    if v.alive && v.diags.any (fun d => d.place == p && decide (d.ticks + 64 ≤ v.clk.ticks)) then
      ({ v with diags := v.diags.filter fun d => d.place != p } : Vexone).complete p stNoActivity 0
    else v

end Sys2Proof.Machine
end

