-- ==== Sys2Proof/Machine/RingsCommands.lean ====
section
/-! DEFINITION. The commands of Rings.lean: Rings, doorbells and DMA windows (spec 04, 15 sections 15.3 and 15.4): the scan of R129, the order of
service of R132, fetch and decode (R133, R136), records, interrupts (R149) and failed reads. -/

namespace Sys2Proof.Machine

open Sys2Proof

/-! ## Doorbells (04 R118, R128, R129) -/

/-- SQ_TAIL_DOORBELL. -/
def execSqTailDoorbell (e : Edge) (m : Master) (cl : Cls) (be : BitVec 4) (w : Word) (s : State) :
    Host.Outcome State Fault Refusal :=
  onVx s fun v => v.access e m fun v => v.ringBell m (sqOf cl) be w

/-- HEAD_DOORBELL. -/
def execHeadDoorbell (e : Edge) (m : Master) (r : HeadRing) (be : BitVec 4) (w : Word) (s : State) :
    Host.Outcome State Fault Refusal :=
  onVx s fun v => v.access e m fun v => v.ringBell m (headRing r) be w

/-! ## Decode and admission (04 R91, R135, R136; 15 R522) -/

/-- DESCRIPTOR_DATA (04 R133, 15 R522): the words of a request's data that arrive, all of them or a part. -/
def execDescriptorData (e : Edge) (rid : Nat) (words : List Word) (s : State) : Host.Outcome State Fault Refusal :=
  onVx s fun v => v.live e fun v => if v.reads.any (fun r => r.rid == rid && r.m != .m2) then v.fetchData rid words else v

/-- DESCRIPTOR_FETCH_ERROR. -/
def execDescriptorFetchError (e : Edge) (rid : Nat) (status : BitVec 8) (s : State) : Host.Outcome State Fault Refusal :=
  onVx s fun v => v.live e fun v =>
    match v.reads.find? (fun r => r.rid == rid) with
    | some r =>
      match r.kind with
      | .descr m cl _ _ gen => v.fetchFail rid m cl gen status.toNat
      | _ => v
    | none => v

/-! ## Buffers (15 R523, 04 R160) -/

/-- BUFFER_DATA: the operation becomes eligible at the edge after its last byte; what the request did not ask for is none of
it. -/
def execBufferData (e : Edge) (rid : Nat) (bytes : List Byte) (s : State) : Host.Outcome State Fault Refusal :=
  onVx s fun v => v.live e fun v =>
    match v.reads.find? (fun r => r.rid == rid) with
    | some r =>
      match r.kind with
      | .buffer p seq ofs len =>
        let part := bytes.take len
        let n := part.length
        let last := decide (n = len)
        let rest := v.reads.filter fun x => x.rid != rid
        let v : Vexone := { v with reads := if last then rest else rest ++ [{ r with kind := .buffer p seq (ofs + n) (len - n) }] }
        if (v.bufferOp p seq).isSome then
          v.modOp p fun o =>
            { o with buf := splice o.buf ofs part
                     bufLeft := if last then o.bufLeft - 1 else o.bufLeft
                     admAt := if last then max o.admAt v.now else o.admAt
                     elig := v.tickOf (v.now + 1) }
        else v
      | _ => v
    | none => v

/-- BUFFER_READ_ERROR. -/
def execBufferReadError (e : Edge) (rid : Nat) (s : State) : Host.Outcome State Fault Refusal :=
  onVx s fun v => v.live e fun v =>
    match v.reads.find? (fun r => r.rid == rid) with
    | some r => match r.kind with
      | .buffer p seq _ _ => v.bufferFail p seq
      | _ => v
    | none => v

/-! ## Windows (04 R131, R132) -/

/-- DMA_WINDOW (04 R131, R132; 15 R521). -/
def execDmaWindow (i : Nat) (s : State) : Host.Outcome State Fault Refusal :=
  onVx s fun v => v.activity i 0x0501 fun e v => v.senseVerdict.serveWindow e

/-! ## Operations that no cleat took (05 R165) -/

/-- A P operation was bound for this frame with its handle (05 R165, R172; 15 R525). -/
def Vexone.boundOp (v : Vexone) (o : Op) : Bool := o.cls == .p && v.sch.bind.any fun b => b.op == some o.seq

/-- NO_CLEAT_TIMEOUT: at the tick that opens frame F + 64, where the operation is unbound. -/
def execNoCleatTimeout (p : Place) (s : State) : Host.Outcome State Fault Refusal :=
  onVx s fun v =>
    match v.opAt p with
    | some o =>
      if v.alive && o.phase == .admitted && o.cls != .u && o.bufLeft == 0 && v.fenceClear o v.clk.t0 && !v.boundOp o &&
          decide (o.elig + 64 ≤ v.clk.ticks) then
        let st := if o.cls = .p && !o.hadCtx && !v.residentOp o then stNoContext else stNoCleat
        v.completeAt p st 0 v.clk.frame 0 (v.clk.t0 + 1)
      else v
    | none => v

end Sys2Proof.Machine
end

