-- ==== Sys2Proof/Machine/DeviceCommands.lean ====
section
/-! DEFINITION. The commands of Device.lean: Declared pairs in force (01 section 1.3), device control (05 Table 5-10), the clock (01 section 1.6) and
the frame follower (01 section 1.4). -/

namespace Sys2Proof.Machine

open Sys2Proof

/-! ## Declared pairs (01 Table 1-2) -/

/-- COMMIT_PAIR (05 R184; 01 R31). -/
def execCommitPair (p : Place) (i : Nat) (s : State) : Host.Outcome State Fault Refusal :=
  onVx s fun v => v.runOp p i 0x1A06 (fun _ o => { badArg := (pairNamed (o.a 0 7 0) (o.a 0 15 8)).isNone })
    fun v o e =>
      match pairNamed (o.a 0 7 0) (o.a 0 15 8) with
      | some id =>
        let q := v.pairPend id
        (v.pairCommit id).done o e (bit q.h1.isSome + bit q.h2.isSome)
      | none => v.finish o e stBadArg 0

/-! ## Faults cleared (16 R559, Table 16-6) -/

/-- FAULT_CLEAR (05 Table 5-10; 16 R559): the one operation that changes the device under a status other than ST_OK. -/
def execFaultClear (p : Place) (i : Nat) (s : State) : Host.Outcome State Fault Refusal :=
  onVx s fun v => v.runOp p i 0x1A01 (fun _ o => { badArg := (namedCodes (o.a 0 15 0)).isEmpty })
    fun v o e =>
      let (refused, named) := v.clearPlan (o.a 0 15 0)
      let v := v.pushDue o.place (.faultClear named)
      match refused with
      | r :: _ => v.finish o e stState r
      | [] => v.done o e (named.map fun x => countOnes x.2).sum

/-! ## Quiet and resume (02 R78, 05 R192) -/

/-- QUIET. -/
def execQuiet (p : Place) (i : Nat) (s : State) : Host.Outcome State Fault Refusal :=
  onVx s fun v => v.runTick p i 0x1A02 (fun _ _ => {}) fun _ _ => (.quiet, 0)

/-- RESUME. -/
def execResume (p : Place) (i : Nat) (s : State) : Host.Outcome State Fault Refusal :=
  onVx s fun v => v.runTick p i 0x1A03
    (fun v _ => { egress := v.eg.active, prot := if v.anyLatched 0x0301 then some 0x0301 else none })
    fun _ _ => (.resume, 0)

/-! ## The clock (01 section 1.6) -/

/-- REFERENCE_LOSS (01 R42 to R44, Table 1-5, R51): the causes met at the edge of the declaration; with none of the first two
it is the PLL's report. CCLK goes to the backup two backup periods later, the furl of every segment falls due 16 CCLK after
that and the code latches 32 CCLK after it; pending UNFURLs are void; INEXACT is set at the next tick, at which a follower is
unlocked. -/
def execReferenceLoss (e : Edge) (noEdge freq : Bool) (s : State) : Host.Outcome State Fault Refusal :=
  onVx s fun v => v.linked e fun v =>
    if v.onBackup || v.pw.stage == .held then v
    else
      let c := refCode (refFirst noEdge freq)
      let v : Vexone := { v with clk := { v.clk with lost := true, lock := false, xiOk := false, inexactNext := true
                                                     cause := BitVec.ofNat 8 c } }
      let v := (v.voidUnfurl 0xFFFF).1
      ((v.leave (v.now + 16) .clockSwitch).leave (v.now + 32) .clockFurl).leave (v.now + 48) (.clockFault c)

/-- REFERENCE_CAUSE_ON_BACKUP (01 R42, R45): a CLOCK_RESTORE under way completes with ST_CLOCK; nothing is latched. -/
def execReferenceCauseOnBackup (e : Edge) (c : RefCause) (s : State) : Host.Outcome State Fault Refusal :=
  onVx s fun v => v.live e fun v =>
    if v.onBackup then ({ v with clk := { v.clk with xiOk := false, lock := false } } : Vexone).endRestore stClock (refCode c) else v

/-- CLOCK_RESTORE (01 R45): `failing` is the R42 cause that the reference does not meet over its last 4,096 periods. -/
def execClockRestore (p : Place) (i : Nat) (failing : Option RefCause) (s : State) : Host.Outcome State Fault Refusal :=
  onVx s fun v => v.runOp p i 0x1A04
    (fun v _ =>
      { clock := if v.onBackup && v.clk.restore.isNone then failing.map refCode else none
        state := if !v.onBackup then some 0 else if v.clk.restore.isSome then some 1 else none })
    fun v o _ => { v with clk := { v.clk with restore := some o.place, xiOk := true } }

/-- CLOCK_RESTORE_SWITCH (01 R45): the first tick after lock. -/
def execClockRestoreSwitch (s : State) : Host.Outcome State Fault Refusal :=
  onVx s fun v =>
    if v.alive && v.clk.ticking && v.clk.edge == 0 && v.clk.backup && v.clk.restore.isSome then
      let v : Vexone := { v with clk := { v.clk with backup := false, lost := false, lock := true, xiOk := true, cause := 0,
                                                     inexact := false, inexactNext := false } }
      (v.endRestore stOk 0).emit 0x0102 (v.clockPayload 0 1)
    else v

/-- PLL_LOCK_TIMEOUT (16 R549): no lock 20 ms after the release. -/
def execPllLockTimeout (c : RefCause) (s : State) : Host.Outcome State Fault Refusal :=
  onVx s fun v =>
    if v.alive && !v.clk.ticking then
      let v : Vexone := { v with clk := { v.clk with cause := BitVec.ofNat 8 (refCode c) } }
      v.latchEv (refCode c) 1 0x0102 (v.clockPayload (refCode c) 0)
    else v

/-! ## The frame follower (01 section 1.4) -/

/-- FSYNC_PULSE (01 R35 to R37, R52): a rising edge at an edge of the frame, with the width that its pulse turns out to have.
Within 64 CCLK of the expected tick it falls into the window: the first one there is judged by its width, a second one or an
invalid width counts as missing. An edge outside every window is judged nothing. -/
def execFsyncPulse (e : Edge) (width : Nat) (s : State) : Host.Outcome State Fault Refusal :=
  onVx s fun v => v.live e fun v =>
    if v.fr.role ≠ 2 ∨ !v.clk.ticking then v
    else
      let err := v.fsyncErr v.clk.edge
      if err < -64 ∨ 64 < err then v
      else
      let win := v.windowAt v.clk.edge
      let again := v.fr.lastWin == win
      let f := v.fr
      let v : Vexone := { v with fr := { f with lastWin := win } }
      if again then
        let v := v.fsyncFault 0x0103
        if f.missWin = win then v
        else ({ v with fr := { v.fr with validWin := 0 } } : Vexone).missPulse win ((if f.validWin = win then f.missBefore else f.missing) + 1)
      else match markerOf width with
        | some kind => v.validPulse v.clk.edge win err kind
        | none => v.missPulse win (f.missing + 1)

/-- FSYNC_PULSE_MISSING (01 R37): the window closes without one valid pulse. -/
def execFsyncPulseMissing (e : Edge) (s : State) : Host.Outcome State Fault Refusal :=
  onVx s fun v => v.live e fun v =>
    let win := v.windowAt v.clk.edge
    if v.fr.role ≠ 2 ∨ !v.clk.ticking ∨ v.fr.validWin = win ∨ v.fr.missWin = win then v
    else v.missPulse win (v.fr.missing + 1)

/-- HOLDOVER_EXPIRY (01 Table 1-4): 64 frames from the first missing pulse. -/
def execHoldoverExpiry (s : State) : Host.Outcome State Fault Refusal :=
  onVx s fun v =>
    if v.alive && v.fr.st == .holdover && decide (64 ≤ v.fr.hold) then
      let v := (v.voidUnfurl 0xFFFF).1.furlAll
      (({ v with fr := { v.fr with hold := 0 } } : Vexone).setFState .unlocked).fsyncMove 0x0104 .holdover
    else v

/-- FRAME_RESYNC (05 Table 5-10; 01 R51). -/
def execFrameResync (p : Place) (i : Nat) (s : State) : Host.Outcome State Fault Refusal :=
  onVx s fun v => v.runTick p i 0x1A05
    (fun v _ => { clock := if v.onBackup then some v.clockCode else none
                  state := if v.fr.st == .unlocked then none else some 0 })
    fun _ _ => (.frameResync, 0)

/-- FRM_CTL_WRITE: at the edge at which its access is served. -/
def execFrmCtlWrite (e : Edge) (m : Master) (be : BitVec 4) (w : Word) (s : State) : Host.Outcome State Fault Refusal :=
  onVx s fun x => x.access e m fun x => x.writeFrmCtl m be w

end Sys2Proof.Machine
end

