-- ==== Sys2Proof/Machine/ContextCommands.lean ====
section
/-! DEFINITION. The commands of Context.lean: The Context Store and the spoil area (spec 06): the handle table, the 128-byte context, moves, the eviction
order, creations, hints, pins and the context operations of 05 Table 5-8b. -/

namespace Sys2Proof.Machine

open Sys2Proof

/-! ## Moves of a CX_WINDOW (06 R205 to R208, R216, R223) -/

/-- CX_WINDOW: PARAM moves, 224 CCLK apart, each taking its work at its own start edge (06 R207, R220; 15 R519). -/
def execCxWindow (i : Nat) (s : State) : Host.Outcome State Fault Refusal :=
  onVx s fun v => v.activity i 0x0601 fun e v =>
    ((List.range e.param).foldl (fun (v : Vexone) k => v.leave (v.clk.t0 + e.start + 224 * k) .cxMove) v).atEdge e.start

/-! ## Fills that return (06 R204, R218, R222; 15 R519) -/

/-- FILL_DATA. -/
def execFillData (e : Edge) (rid : Nat) (bytes : List Byte) (s : State) : Host.Outcome State Fault Refusal :=
  onVx s fun v => v.live e fun v =>
    match v.reads.find? (fun r => r.rid == rid) with
    | some r => match r.kind with
      | .fill h op => ({ v with reads := v.reads.filter fun x => x.rid != rid } : Vexone).fillArrive h op bytes
      | _ => v
    | none => v

/-- FILL_READ_ERROR. -/
def execFillReadError (e : Edge) (rid : Nat) (s : State) : Host.Outcome State Fault Refusal :=
  onVx s fun v => v.live e fun v =>
    match v.reads.find? (fun r => r.rid == rid) with
    | some r => match r.kind with
      | .fill h _ => v.fillFail rid h
      | _ => v
    | none => v

/-- COMPLETION_TIMEOUT (04 R663): the consequences of a read completion with an error status, once the time that applies to
the request has passed. -/
def execCompletionTimeout (e : Edge) (rid : Nat) (s : State) : Host.Outcome State Fault Refusal :=
  onVx s fun v => v.live e fun v =>
    match v.reads.find? (fun r => r.rid == rid) with
    | some r =>
      if v.now < r.at_ + r.limit || r.m == .m2 then v
      else match r.kind with
        | .descr m k _ _ gen => v.fetchFail rid m k gen 0xFF
        | .buffer p seq _ _ => v.bufferFail p seq
        | .image _ _ => v.failLoad
        | .fill h _ => v.fillFail rid h
    | none => v

/-! ## Context operations (05 Table 5-8b) -/

/-- CX_FILL. -/
def execCxFill (p : Place) (i : Nat) (s : State) : Host.Outcome State Fault Refusal :=
  onVx s fun v => v.runOp p i 0x1701
    (fun v o => { handle := v.untracked o, egress := v.eg.active
                  state := if v.cx.spoil.isNone && !(v.cx.get o.handle).resident then some 0 else none })
    fun v o e =>
      let h := o.handle
      let x := v.cx.get h
      if x.resident then v.done o e (x.slot.getD 0 + 0x8000)
      else if x.busy then v
      else if x.slot.isSome || 0 < v.cx.free then v.issueFill h (some o.place) (v.clk.t0 + e.start)
      else match v.cleanCandidate with
        | some k => (v.freeClean k).issueFill h (some o.place) (v.clk.t0 + e.start)
        | none =>
          let v := match (v.candidates 3).head? with
            | some k => v.modCx fun x => { x with wantSpill := x.wantSpill.filter (· != k.handle) ++ [k.handle] }
            | none => v
          v.finish o e stStoreFull 0

/-- CX_SPILL. -/
def execCxSpill (p : Place) (i : Nat) (s : State) : Host.Outcome State Fault Refusal :=
  onVx s fun v => v.runOp p i 0x1702
    (fun v o => { handle := v.untracked o
                  state := if v.cx.spoil.isNone && (v.cx.get o.handle).resident then some 0 else none
                  late := if v.pinnedFor o then some (stPinned, 0) else none })
    fun v o e =>
      let detail := if (v.cx.get o.handle).resident then 0 else 0x8000
      (v.spill o.handle).completeAt o.place stOk detail v.clk.frame (e.start + 63) (v.clk.t0 + e.start + 64)

/-- CX_PIN. -/
def execCxPin (p : Place) (i : Nat) (s : State) : Host.Outcome State Fault Refusal :=
  onVx s fun v => v.runTick p i 0x1703
    (fun v o => { handle := v.untracked o
                  late := if !(v.cx.get o.handle).resident then some (stNoContext, 0)
                          else if 256 ≤ v.cx.pins && !(v.cx.get o.handle).pin then some (stLimit, 0) else none })
    fun _ o => (.cxPin o.handle, 0)

/-- CX_UNPIN. -/
def execCxUnpin (p : Place) (i : Nat) (s : State) : Host.Outcome State Fault Refusal :=
  onVx s fun v => v.runTick p i 0x1704 (fun v o => { handle := v.untracked o })
    fun v o => (.cxUnpin o.handle, if (v.cx.get o.handle).pin then 0 else 0x8000)

/-- CX_HINT. -/
def execCxHint (p : Place) (i : Nat) (s : State) : Host.Outcome State Fault Refusal :=
  onVx s fun v => v.runOp p i 0x1705
    (fun v o => { undeclared := !v.laneDeclared (o.a 0 1 0), handle := v.untracked o })
    fun v o e =>
      let due := v.clk.ticks + o.a 0 15 8
      let x := v.cx.get o.handle
      let v := if x.resident || x.busy then v.modH o.handle fun e => { e with hintTo := max e.hintTo (due + 64) }
        else v.addHint { handle := o.handle, due := due, lane := o.a 0 1 0, counted := false, out := false }
      v.done o e

/-- CX_KEY. -/
def execCxKey (p : Place) (i : Nat) (s : State) : Host.Outcome State Fault Refusal :=
  onVx s fun v => v.runTick p i 0x1706
    (fun v o => { handle := v.untracked o
                  late := if (v.cx.get o.handle).resident then none else some (stNoContext, 0) })
    fun _ o => (.cxKey o.handle (ofWords ((List.range 4).map o.arg)) (BitVec.ofNat 8 (o.a 4 7 0)), 0)

/-- CX_RETIRE. -/
def execCxRetire (p : Place) (i : Nat) (s : State) : Host.Outcome State Fault Refusal :=
  onVx s fun v => v.runTick p i 0x1707
    (fun v o => { handle := v.untracked o, late := if v.pinnedFor o then some (stPinned, 0) else none })
    fun _ o => (.cxRetire o.handle, 0)

/-- SPOIL_SET (06 R199, R217). -/
def execSpoilSet (p : Place) (i : Nat) (s : State) : Host.Outcome State Fault Refusal :=
  onVx s fun v => v.runTick p i 0x1708
    (fun v o => { badArg := o.a 0 15 0 != 0
                  state := if o.m = .m2 || 0 < v.cx.spoilHeld then some 0 else none })
    fun _ o => (.spoilSet (BitVec.ofNat 64 ((o.arg 0).toNat + (o.arg 1).toNat * 2 ^ 32)) o.m, 0)

end Sys2Proof.Machine
end

