-- ==== Sys2Proof/Machine/EnergyCommands.lean ====
section
/-! DEFINITION. The commands of Energy.lean: The energy loop on the controller's side (spec 08; 18 R610 to R614): tags, bindings, steering, carrier
vectors, grants, directives and reports. -/

namespace Sys2Proof.Machine

open Sys2Proof

/-! ## Reports and hellos (08 sections 8.2, 8.7, 8.9) -/

/-- HELLO (08 R273; 18 R614): a hello in the uplink of the fragments that carry the tag offered to a handle. -/
def execHello (e : Edge) (h : BitVec 12) (bits : BitVec 64) (s : State) : Host.Outcome State Fault Refusal :=
  onVx s fun v => v.live e fun v =>
    match v.ctxOf h, v.loopOf h with
    | some c, some l =>
      match l.offer with
      | none => v
      | some t =>
        if !repGood bits then v.passEvent c (some t) 4
        else if repFld bits 8 8 = 0 then v
        else if v.isRack && c.passId != 0 && c.passId != helloId bits then
          let v := ((v.freeTag h).modLoop h fun l => { l with mute := true, offer := none, dir := none }).modCtx h fun c =>
            { c with outstanding := false }
          let v := v.emit 0x0703 (payload [(2, c.handle), (1, c.loc), (1, c.pocket), (4, c.passId), (4, helloId bits)])
          { v with rack := { v.rack with nMis := satTo 65535 (v.rack.nMis + 1) } }
        else
          let v := v.modCtx h fun c =>
            { c with passId := helloId bits, nonce := helloNonce bits, acnt := 0, tag := t, tagged := true, pol := 1
                     lastFrame := v.clk.frame.toNat }
          let v := v.modLoop h fun l =>
            { l with offer := none, beacons := 0, queue := [], keeps := 0, noRep := 0, missRun := 0, repAt := none }
          let v := v.newDirective h 1 (t * 1024 + helloId bits % 1024)
          v.passEvent { c with passId := helloId bits } (some t) 1
    | _, _ => v

/-- ENERGY_REPORT (08 R294, R299): a report string of a tagged pass has ended. One in error counts as missed; one of another
bank latches 0x0705 alone. -/
def execEnergyReport (e : Edge) (h : BitVec 12) (bits : BitVec 64) (s : State) : Host.Outcome State Fault Refusal :=
  onVx s fun v => v.live e fun v =>
    match v.ctxOf h, v.loopOf h with
    | some c, some l =>
      if !c.tagged || repFld bits 8 8 = 1 then v
      else if !repGood bits then
        (v.modCtx h fun c => { c with missedRep := satTo 255 (c.missedRep + 1) }).modLoop h fun l =>
          { l with bMissed := l.bMissed + 1, missed := true, repAt := some v.now }
      else if repFld bits 11 9 ≠ v.bankId then v.laneFault 0x0705 c.loc
      else v.takeReport h c l bits
    | _, _ => v

/-- REPORT_TIMEOUT (08 R299): 64 frames without a good report; a KEEP goes out under a new SEQ, and after four of them the tag
is released and the handle is offered a tag again. -/
def execReportTimeout (e : Edge) (h : BitVec 12) (s : State) : Host.Outcome State Fault Refusal :=
  onVx s fun v => v.live e fun v =>
    match v.ctxOf h, v.loopOf h with
    | some c, some l =>
      if !c.tagged || l.noRep < 64 then v
      else if 4 ≤ l.keeps then v.releaseTag h
      else
        let back := match l.dir with | some d => if d.op = 9 then [] else [(d.op, d.arg)] | none => []
        let v := v.modLoop h fun l => { l with keeps := l.keeps + 1, noRep := 0, queue := back ++ l.queue }
        v.newDirective h 9 0
    | _, _ => v

/-- BEACON_EXHAUSTED (08 R273): 16 BEACONs sent without an ASSIGN; fault 0x0706 and no offer for 64 frames. -/
def execBeaconExhausted (e : Edge) (h : BitVec 12) (s : State) : Host.Outcome State Fault Refusal :=
  onVx s fun v => v.live e fun v =>
    match v.ctxOf h, v.loopOf h with
    | some c, some l =>
      if l.offer.isSome && decide (16 ≤ l.beacons) && (l.dir.any fun d => d.endedBy v.now) then
        let v := (v.freeTag h).modLoop h fun l =>
          { l with offer := none, beacons := 0, dir := none, quietTo := v.clk.ticks + 64 }
        (v.modCtx h fun c => { c with outstanding := false }).laneFault 0x0706 c.loc
      else v
    | _, _ => v

/-- ENERGY_CAP (05 Table 5-4). -/
def execEnergyCap (p : Place) (i : Nat) (s : State) : Host.Outcome State Fault Refusal :=
  onVx s fun v => v.runTick p i 0x1105
    (fun v o => { handle := v.untracked o
                  late := if (v.cx.get o.handle).resident then none else some (stNoContext, 0) })
    fun _ o => (.energyCap o.handle (o.a 0 15 0), 0)

end Sys2Proof.Machine
end

