-- ==== Sys2Proof/Machine/IsoCommands.lean ====
section
/-! DEFINITION. The commands of Iso.lean: ISO/IEC 14443 on the reader side (07 section 7.9): sessions, PCD frames and their windows, answers, waits and
the session timeout, the P cleat, and the session operations of 05 Table 5-4. -/

namespace Sys2Proof.Machine

open Sys2Proof

/-! ## The P cleat (07 Table 7-4) -/

/-- P_CLEAT (07 Table 7-4, R250, R256; 08 R276): `uW` is the real power that each segment of the pair draws over the cleat, `answered`
whether the pass answered in it, `cut` whether a neighbour's pause cut the fragment (log entry 5). A listening pair keeps the vector
of the pass that it listens to. -/
def execPCleat (i : Nat) (uW : Vector Nat 2) (answered cut : Bool) (s : State) : Host.Outcome State Fault Refusal :=
  onVx s fun v =>
    match v.entry i with
    | none => v
    | some e =>
      if !v.alive || !v.clk.ticking || e.kind ≠ 1 || e.cls ≠ 2 || v.sch.used.contains i then v
      else
        let v := v.atEdge e.start
        let v : Vexone := { v with sch := { v.sch with used := v.sch.used ++ [i] } }
        let heard := (v.sess.find? fun x => x.listening && x.tracks &&& e.segs != 0).map (·.vec)
        match v.sch.bind.find? (fun b => (b.first == i || b.second == i) && !b.lost) with
        | none =>
          let ss := segsOf e.segs
          let a := v.segs[ss.getD 0 0]
          let d := v.segs[ss.getD 1 (ss.getD 0 0)]
          let vec := heard.getD #v[a.cp, a.cs, d.cp, d.cs]
          ((v.steer e vec).measurePair e vec uW).1
        | some b =>
          let vec := heard.getD b.vec
          let (v, coupled) := (v.steer e vec).measurePair e vec uW
          let second := b.second == i
          let live := v.unfurled &&& e.segs != 0
          let v : Vexone := { v with sch := { v.sch with bind := v.sch.bind.map fun y =>
            if y.handle = b.handle then
              { y with cur := if live then (if second then 2 else 1) else 0, served := y.served + bit live, frag := false,
                       cells := 0, answered := y.answered || (answered && live), coupled := y.coupled + coupled
                       lit := y.lit + e.dur, judged := y.judged || heard.any (· != b.vec) }
            else y } }
          if !live then v
          else
            let v := if answered then v.heardOn e.segs else v
            let v := v.modCtx b.handle fun c =>
              { c with cLast := satTo 65535 ((b.coupled + coupled) / (b.lit + e.dur : Nat)).toNat
                       lastFrame := if answered then v.clk.frame.toNat else c.lastFrame }
            v.exchange b e second cut

/-! ## Session operations (05 R172, Table 5-4) -/

/-- A session operation begins in a P cleat of its handle's binding, with which it was bound (05 R172; 15 R525). -/
def Vexone.runSess (v : Vexone) (p : Place) (i opcode : Nat) (checks : Vexone → Op → Checks)
    (phase : Ctx → SessPhase) : Vexone :=
  match v.entry i with
  | none => v
  | some e =>
  let w := if v.alive && v.clk.ticking then v.atEdge e.start else v
  match w.opAt p with
  | some o =>
    match w.sch.bind.find? (fun b => (b.first == i || b.second == i) && b.op == some o.seq && !b.lost), w.ctxOf o.handle with
    | some b, some c =>
      if v.alive && v.clk.ticking && e.kind == 1 && e.cls == 2 && o.opcode == opcode && o.cls == .p && o.phase == .admitted &&
          !w.inSession o.handle then
        let v := w.fanKick o.m
        let v := v.modOp p fun o => { o with phase := .running }
        match (checks v o).first false true v.active.isSome o.reservedBad with
        | some (st, d) => v.finish o e st d
        | none =>
          let l := v.laneOfLoc c.loc
          let v := v.modCtx o.handle fun c =>
            { c with opTag := descTag o.words, bindFrame := v.clk.frame.toNat, attempt := 0, sent := 0, rcvd := 0
                     deadline := (v.clk.frame.toNat + v.lanes[l].timeout) % 2 ^ 32, wtxm := 0, block := c.block &&& 1 }
          { v with sess := v.sess ++ [{ place := p, tag := BitVec.ofNat 16 (descTag o.words), handle := o.handle, lane := l
                                        tracks := b.tracks, phase := phase c, attempts := 0, bindTick := v.clk.ticks
                                        timeout := v.lanes[l].timeout, retries := v.lanes[l].retries, cmdLen := o.a 0 15 0
                                        listening := false, listenTo := 0, toSend := true, nak := false
                                        wtx := false, wtxm := 0, chunk := 0, silent := true, vec := b.vec, known := []
                                        block := c.block.getLsbD 0, maxRate := o.a 0 1 0
                                        uid := [], cl := [], sak := 0, ats := [], rx := [], expTick := 0 }] }
      else v
    | _, _ => v
  | none => v

/-- ISO_ACTIVATE: on an indeterminate pass S(DESELECT) goes first (07 R260). -/
def execIsoActivate (p : Place) (i : Nat) (s : State) : Host.Outcome State Fault Refusal :=
  onVx s fun v => v.runSess p i 0x1101
    (fun v o => { badArg := o.a 0 1 0 == 3 || decide (o.bufLen < 64)
                  state := if v.laneBusy o.handle then some 0 else none })
    fun c => if c.isoState = 3 then .wake else .request

/-- APDU. -/
def execApdu (p : Place) (i : Nat) (s : State) : Host.Outcome State Fault Refusal :=
  onVx s fun v => v.runSess p i 0x1102
    (fun v o => { badArg := o.a 0 15 0 == 0 || decide (o.bufLen < o.a 0 15 0)
                  state := if v.notActivated o.handle then some 0 else none })
    fun _ => .command 0

/-- DESELECT. -/
def execDeselect (p : Place) (i : Nat) (s : State) : Host.Outcome State Fault Refusal :=
  onVx s fun v => v.runSess p i 0x1103 (fun v o => { state := if v.notActivated o.handle then some 0 else none })
    fun _ => .deselect

/-- SESS_LIMITS (05 R174; 07 R259). -/
def execSessLimits (p : Place) (i : Nat) (s : State) : Host.Outcome State Fault Refusal :=
  onVx s fun v => v.runTick p i 0x1104
    (fun v o =>
      { badArg := o.a 0 15 0 == 0 || decide (10000 < o.a 0 15 0) || decide (4 < o.a 1 2 0)
        undeclared := !v.laneDeclared o.target
        late := if o.a 0 15 0 < sessMin (o.a 1 2 0) then some (stBelowMin, sessMin (o.a 1 2 0)) else none })
    fun _ o => (.sessLimits o.lane (o.a 0 15 0) (o.a 1 2 0), 0)

/-! ## Answers (07 R257, R258, R260) -/

/-- ISO_ANSWER (07 R256 to R260, Table 7-4). -/
def execIsoAnswer (e : Edge) (sg : SegId) (f : IsoFrame) (s : State) : Host.Outcome State Fault Refusal :=
  onVx s fun v => v.live e fun v =>
    match v.sess.find? (fun x => x.listening && x.tracks.getLsbD sg.val) with
    | some x => if x.phase = .over then v.lateAnswer x f else v.takeAnswer x f
    | none =>
      if v.inIsoSlot sg e then
        match f with
        | .atqa h => (v.modSeg sg fun x => { x with cnt := vcount x.cnt 6 }).sighted sg h
        | .collision _ => (v.modSeg sg fun x => { x with cnt := vcount x.cnt 7 }).sighted sg none
        | _ => v.modSeg sg fun x => { x with cnt := vcount x.cnt 7 }
      else v

/-- ISO_ANSWER_TIMEOUT (07 R257, R258): the wait of the last frame has passed without an answer. -/
def execIsoAnswerTimeout (e : Edge) (sg : SegId) (s : State) : Host.Outcome State Fault Refusal :=
  onVx s fun v => v.live e fun v =>
    match v.sess.find? (fun x => x.listening && x.tracks.getLsbD sg.val) with
    | some x =>
      if v.now < x.listenTo then v
      else if x.phase = .over then v.dropSess x.place
      else v.sessError x true
    | none => v

/-- SESSION_TIMEOUT (07 R260): at the tick that opens the binding frame plus TIMEOUT. The pair stays listening until the wait
of the last frame has passed. -/
def execSessionTimeout (p : Place) (s : State) : Host.Outcome State Fault Refusal :=
  onVx s fun v =>
    match v.sessOf p with
    | some x =>
      if !v.alive || x.phase = .over || v.clk.ticks < x.bindTick + x.timeout then v
      else
        let v := v.modCtx x.handle fun c => { c.setIso 3 with timeouts := satTo 255 (c.timeouts + 1), attempt := 0 }
        let v := v.modLane x.lane fun l => { l with cnt := vcount l.cnt 5 }
        let v := v.complete p stSessionTimeout 0
        if x.listening then v.modSess p fun x => { x with phase := .over, expTick := v.clk.ticks, toSend := false }
        else v.dropSess p
    | none => v

end Sys2Proof.Machine
end

