-- ==== Sys2Proof/Machine/RacksCommands.lean ====
section
/-! DEFINITION. The commands of Racks.lean: Conditioning racks (spec 18): pocket selection, the conveyor and its guarded pockets; and the ordinary lane
inputs (04 R147). -/

namespace Sys2Proof.Machine

open Sys2Proof

/-! ## POCKET_SEL (18 R607, R608) -/

/-- POCKET_SEL: pocket (o + Q) mod POCKETS. -/
def execPocketSel (i : Nat) (s : State) : Host.Outcome State Fault Refusal :=
  onVx s fun v => v.activity i 0x0105 fun e v =>
    if v.isRack then v.forSegs e.segs fun v s => v.selectPocket s e.start ((e.param + v.rack.q) % v.pockets) else v

/-! ## The conveyor (18 R615 to R617) -/

/-- TOOTH (18 R616, R617, R625). -/
def execTooth (e : Edge) (s : State) : Host.Outcome State Fault Refusal :=
  onVx s fun v => v.live e fun v =>
    if !v.conveyor || v.rack.homeAt == some v.now || v.rack.lost then v
    else match v.rack.window with
      | none => if v.rack.run then v.goodTooth else v.strayTooth true
      | some (lo, hi) =>
        if lo ≤ v.now ∧ v.now ≤ hi then v.goodTooth
        else v.strayTooth (!v.rack.run && decide (hi < v.now))

/-- TOOTH_WINDOW_CLOSE (18 R617): the first empty window extrapolates a column, the second in a row loses the carriage. -/
def execToothWindowClose (e : Edge) (s : State) : Host.Outcome State Fault Refusal :=
  onVx s fun v => v.live e fun v =>
    match v.rack.window with
    | none => v
    | some (_, hi) =>
      if !v.conveyor || !v.rack.run || v.rack.lost || v.now < hi then v
      else if v.rack.extra then
        ((v.modRack fun r => { r with lost := true, certain := false }).conveyorEvent 3).guardPockets
      else
        let k := v.nextColumn
        let v := v.modRack fun r =>
          { r with k := k, certain := false, extra := true, sure := r.certain, tLast := r.tLast.map (· + r.interval)
                   nExtra := satTo 65535 (r.nExtra + 1) }
        (v.conveyorEvent 1).guardPockets

/-- HOME (18 R616). -/
def execHome (e : Edge) (s : State) : Host.Outcome State Fault Refusal :=
  onVx s fun v => v.live e fun v =>
    let v := v.setLin 3 true
    if v.conveyor && (v.decl.any fun d => d.lins.getLsbD 3) then
      let v := v.modRack fun r => { r with k := 0, certain := true, lost := false, homed := true, homeAt := some v.now }
      (v.conveyorEvent 0).guardPockets
    else v

/-- CONVEYOR_RUN_EDGE (18 R616): the first two teeth after LIN1 rises carry no window. -/
def execConveyorRunEdge (e : Edge) (high : Bool) (s : State) : Host.Outcome State Fault Refusal :=
  onVx s fun v => v.live e fun v =>
    let v := v.setLin 1 high
    if v.conveyor && (v.decl.any fun d => d.lins.getLsbD 1) && v.rack.run != high then
      v.modRack fun r => if high then { r with run := true, teeth := 0, extra := false, tLast := none } else { r with run := false }
    else v

/-- LANE_INPUT_CHANGE (04 R147). -/
def execLaneInputChange (e : Edge) (n : Fin 16) (level : Bool) (s : State) : Host.Outcome State Fault Refusal :=
  onVx s fun v => v.live e fun v => v.setLin n level

end Sys2Proof.Machine
end

