-- ==== Sys2Proof/Machine/TickCommands.lean ====
section
/-! DEFINITION. The commands of Tick.lean: The frame boundary (01 R25 to R29, Table 1-6): what latches at a tick, the settings that operations left, the
template of the new frame (02 R78 to R80), the bench (04 R146), the activation of egress (13 R478) and of an image (02 R76);
and edge 200,000. -/

namespace Sys2Proof.Machine

open Sys2Proof

/-! ## The tick -/

/-- TICK (01 R22, R46, Table 1-6). In a software reset it is the tick that opens frame 0 at the release, 6,448 CCLK after the
write (16 Table 16-3). -/
def execTick (s : State) : Host.Outcome State Fault Refusal :=
  if s.vx.alive && s.vx.clk.ticking then
    .next ({ s with vx := (s.vx.atEdge (frameLen - 1)).endFrame.advance } : State).tickWork
  else
    match s.vx.pw.stage.resetFrom with
    | some t =>
      if s.vx.clk.ticking then .next ({ s with vx := (s.vx.runUpTo (t + 6447) laterBound).resetRelease } : State).tickWork
      else .next s
    | none => .next s

/-- PLL_LOCK (01 R24; 16 R548, R549): the first tick opens frame 0, and CCLK runs from the reference. -/
def execPllLock (s : State) : Host.Outcome State Fault Refusal :=
  if s.vx.alive && !s.vx.clk.ticking then
    let v := s.vx
    .next ({ s with vx := { v with clk := { v.clk with
      frame := 0, t0 := v.now, edge := 0, ticks := 0, ticking := true, backup := false, lost := false, lock := true, xiOk := true, cause := 0,
      inexact := false, inexactNext := false } } } : State).tickWork
  else .next s

/-! ## The swap (02 R76, R80, R84; 12 R455; 14 R515; 18 R606, R616) -/

/-- IMAGE_SWAP_ACTIVATION: at the tick that opens the bench of a pending swap the stores exchange roles, and the frame opens
under the new image. The first rack image starts its rotation anew, each one its conveyor (18 R606, R616; log entry 125). -/
def execImageSwapActivation (s : State) : Host.Outcome State Fault Refusal :=
  onVx s fun v =>
    match v.img.swap with
    | some w =>
      if v.alive && v.clk.ticking && v.clk.edge == 0 && v.swapDue && v.img.standby.image.isSome then
        let first := !v.isRack
        let v : Vexone := { v with img := { v.img with active := v.img.standby, standby := v.img.active, swap := none }
                                   dcnt := vcount v.dcnt 3 }
        let v := if v.isRack && first then v.modRack fun r => { r with q := 0 } else v.tickRotation
        let v := if v.isRack then v.modRack fun r => { r with k := 0, certain := false, lost := false, homed := false, extra := false } else v
        (v.dropFans.openFrame).complete w.place stOk (w.bench % 65536)
      else v
    | none => v

/-! ## Edge 200,000 (01 Table 1-6) -/

/-- TEMPLATE_INDEX_READ (01 Table 1-6; 02 R78, R79; 06 R206; 08 R275, R279, R282). -/
def execTemplateIndexRead (s : State) : Host.Outcome State Fault Refusal :=
  onVx s fun v =>
    if v.alive && v.clk.ticking && decide (v.clk.edge ≤ 200000) then
      let v := v.atEdge 199999
      let v : Vexone := { v with clk := { v.clk with edge := 200000 } }
      match v.nextImage with
      | some im =>
        let t := im.seq.getD ((v.clk.frame + 1).toNat % im.seq.length) 0
        let v : Vexone := { v with sch := { v.sch with next := t, made := im.tpls.getD t [] } }
        let v := v.noteContexts.judgeSessions
        (v.decideEnergy (im.tpls.getD t [])).judgeHints.noteFree
      | none => (v.noteContexts.judgeSessions.decideEnergy []).judgeHints.noteFree
    else v

end Sys2Proof.Machine
end

