-- ==== Sys2Proof/Machine/QueriesCommands.lean ====
section
/-! DEFINITION. The commands of Queries.lean: The query operations (05 section 5.11): the state records and counters of the units, and the latched faults,
ledgers, contexts and image stores. -/

namespace Sys2Proof.Machine

open Sys2Proof

/-! ## The operations -/

/-- A query: its checks at the start of its cleat, the state copied 32 CCLK later (15 Table 15-3). -/
def Vexone.runQuery (v : Vexone) (p : Place) (i opcode : Nat) (checks : Vexone → Op → Checks) : Vexone :=
  v.runOp p i opcode checks fun v o _ => v.leave (v.now + 32) (.snap o.place o.seq i)

/-- Q_STATE. -/
def execQState (p : Place) (i : Nat) (s : State) : Host.Outcome State Fault Refusal :=
  onVx s fun v => v.runQuery p i 0x1B01
    fun v o => { badArg := o.queryBad || (v.stateRecord (o.a 1 3 0) o.target).isNone }

/-- Q_COUNTERS. -/
def execQCounters (p : Place) (i : Nat) (s : State) : Host.Outcome State Fault Refusal :=
  onVx s fun v => v.runQuery p i 0x1B02
    fun v o => { badArg := o.queryBad || (v.counterRecord (o.a 1 3 0) o.target).isNone }

/-- Q_FAULTS. -/
def execQFaults (p : Place) (i : Nat) (s : State) : Host.Outcome State Fault Refusal :=
  onVx s fun v => v.runQuery p i 0x1B03 fun _ o => { badArg := o.queryBad }

/-- Q_LEDGER. -/
def execQLedger (p : Place) (i : Nat) (s : State) : Host.Outcome State Fault Refusal :=
  onVx s fun v => v.runQuery p i 0x1B04 Vexone.handleChecks

/-- Q_CONTEXT. -/
def execQContext (p : Place) (i : Nat) (s : State) : Host.Outcome State Fault Refusal :=
  onVx s fun v => v.runQuery p i 0x1B05 Vexone.handleChecks

/-- Q_IMAGE. -/
def execQImage (p : Place) (i : Nat) (s : State) : Host.Outcome State Fault Refusal :=
  onVx s fun v => v.runQuery p i 0x1B06 fun _ o => { badArg := o.queryBad }

end Sys2Proof.Machine
end

