-- ==== Sys2Proof/Machine/ResetsCommands.lean ====
section
/-! DEFINITION. The commands of Resets.lean: Resets (spec 16): power-on, supply dip and software reset of the secondary die (R541 to R547, R664), and the
port resets of 04 R155. -/

namespace Sys2Proof.Machine

open Sys2Proof

/-! ## Port resets (03 R88; 04 R155; 06 R216; 17 R587, R600) -/

/-- FLR_START: PORT_x_STAT returns to reset, except LINK_UP and SPEED, and FLR reads 1. -/
def execFlrStart (e : Edge) (p : Port) (s : State) : Host.Outcome State Fault Refusal :=
  onVx s fun v => v.linked e fun v =>
    let x := v.portOf p
    if x.flr || x.perst || v.pw.stage == .held then v
    else v.portReset p { PortState.reset with linkUp := x.linkUp, speed := x.speed, flr := true, flrTo := v.now + 21696 }

/-- FLR_END: 21,696 CCLK after the start. -/
def execFlrEnd (e : Edge) (p : Port) (s : State) : Host.Outcome State Fault Refusal :=
  onVx s fun v => v.linked e fun v =>
    let x := v.portOf p
    if x.flr && decide (x.flrTo ≤ v.now) then (v.setPort p { x with flr := false }).portResetEnd p.master else v

/-- PERST_ASSERT: the link is down until it trains again (16 R548); a die held in reset takes the level of the pin alone. -/
def execPerstAssert (e : Edge) (p : Port) (s : State) : Host.Outcome State Fault Refusal :=
  onVx s fun v => v.linked e fun v =>
    if (v.portOf p).perst then v
    else if v.alive then v.portReset p { PortState.reset with perst := true }
    else v.setPort p { PortState.reset with perst := true }

/-- PERST_DEASSERT. -/
def execPerstDeassert (e : Edge) (p : Port) (s : State) : Host.Outcome State Fault Refusal :=
  onVx s fun v => v.linked e fun v =>
    let x := v.portOf p
    if x.perst then (v.setPort p { x with perst := false }).portResetEnd p.master else v

/-! ## Device resets -/

/-- POWER_ON_RESET: the supplies have risen; the die is held until its release (16 R541, R543). -/
def execPowerOnReset (s : State) : Host.Outcome State Fault Refusal := onVx s fun v => v.atReset 1 .held

/-- SUPPLY_DIP: a supply has fallen while the die runs (16 R541, R565; 19 R632). -/
def execSupplyDip (s : State) : Host.Outcome State Fault Refusal :=
  onVx s fun v => if v.pw.stage = .held then v else v.atReset 2 .held

/-- POWER_ON_RELEASE: 2.0 ms after the supplies are valid; VIO at or above 2.40 V selects 3.3 V mode (16 R542; 19 R633). -/
def execPowerOnRelease (vioMv : Nat) (s : State) : Host.Outcome State Fault Refusal :=
  onVx s fun v =>
    if v.pw.stage = .held then { v with pw := { v.pw with stage := .running, vio33 := decide (2400 ≤ vioMv) } } else v

/-- SOFTWARE_RESET: a write of RST_CTRL, at the edge at which its access is served. -/
def execSoftwareReset (e : Edge) (m : Master) (be : BitVec 4) (w : Word) (s : State) : Host.Outcome State Fault Refusal :=
  onVx s fun x => x.access e m fun x => x.writeRstCtrl m be w

end Sys2Proof.Machine
end

