-- ==== Sys2Proof/Machine/WindowCommands.lean ====
section
/-! DEFINITION. The commands of Window.lean: The register window (spec 17): what every address reads, what a write of every address does, the SPI frame of
M2, and what a port does beside requests to the window. -/

namespace Sys2Proof.Machine

open Sys2Proof

/-! ## Reads (00 R9; 03 R89; 17 R585) -/

/-- A read access of a master: in a software reset it returns zero (16 Table 16-3). -/
def State.readAt (s : State) (e : Edge) (m : Master) (a : Nat) : State :=
  if s.vx.alive then ({ s with vx := s.vx.accessed e m } : State).readBytes m a 4
  else if s.vx.pw.stage.resetFrom.isSome then { s with vx := (s.vx.idle e).put (.regRead m a 0) }
  else s

/-- RC_FIELD_READ: a read of any byte reads the whole register (00 R8). -/
def execRcFieldRead (e : Edge) (m : Master) (a : BitVec 16) (s : State) : Host.Outcome State Fault Refusal :=
  .next (s.readAt e m (regAddr a))

/-- NOW_OFS_READ. -/
def execNowOfsRead (e : Edge) (m : Master) (s : State) : Host.Outcome State Fault Refusal :=
  .next (s.readAt e m 0x0030)

/-! ## Writes (17 R576, Table 17-3; 03 R90) -/

/-- REGISTER_WRITE. -/
def execRegisterWrite (e : Edge) (m : Master) (a : BitVec 16) (be : BitVec 4) (w : Word) (s : State) :
    Host.Outcome State Fault Refusal :=
  onVx s fun v => v.access e m fun v => v.writeReg m (regAddr a) be w

/-! ## The SPI frame (17 section 17.3) -/

/-- The data bytes of a write frame, four to a register, each register's bytes enabled as they were sent: register j completes
20 + 4 j CCLK after the rise of the chip select (17 R581). -/
def Vexone.spiWrites (v : Vexone) (t : Nat) : Nat → Nat → List Byte → Vexone
  | 0, _, _ => v
  | k + 1, a, bs =>
    if bs.isEmpty then v
    else
      let part := bs.take 4
      (v.leave t (.spiWrite a (BitVec.ofNat 4 (2 ^ part.length - 1)) (word (leNat part)))).spiWrites (t + 4) k ((a + 4) % 65536)
        (bs.drop 4)

/-- SPI_FRAME (17 R580 to R582, R601): the whole bytes that M2 clocked between the fall and the rise of the chip select, and the
further bits of a partial last byte; the edge is that of the rise. A frame that rises in a software reset does nothing. -/
def execSpiFrame (e : Edge) (mode3 : Bool) (bytes : List Byte) (spare : Fin 8) (s : State) : Host.Outcome State Fault Refusal :=
  .next <|
    if !s.vx.alive then { s with vx := s.vx.idle e }
    else
      let v := s.vx.atEdge e
      let v : Vexone := { v with regs := { v.regs with spiMode3 := mode3 } }
      let s : State := { s with vx := v }
      let a := beNat ((bytes.drop 1).take 2)
      match bytes.head? with
      | some 0x02 =>
        if 4 ≤ bytes.length && a % 4 = 0 then { s with vx := v.spiWrites (v.now + 20) bytes.length a (bytes.drop 3) }
        else { s with vx := v.badFrame }
      | some 0x0B =>
        if 6 ≤ bytes.length && a % 4 = 0 then s.spiRead (decide (0 < spare.val)) bytes.length a (bytes.length - 5)
        else { s with vx := v.badFrame }
      | _ => { s with vx := v.badFrame }

/-! ## Ports (17 R575, R586; 04 R149, R160, R663) -/

/-- UNSUPPORTED_REQUEST: answered as such, nothing written. -/
def execUnsupportedRequest (e : Edge) (p : Port) (k : BadRequest) (s : State) : Host.Outcome State Fault Refusal :=
  match k with
  | .io | .atomic | .locked | .overrun => onVx s fun v => v.live e fun v => v.put (.unsupported p)

/-- CONFIGURATION_WRITE. -/
def execConfigurationWrite (e : Edge) (p : Port) (f : ConfigField) (s : State) : Host.Outcome State Fault Refusal :=
  onVx s fun v => v.linked e fun v =>
    let x := v.portOf p
    v.setPort p (match f with
      | .completionTimeout k => { x with cto := k }
      | .busMaster on => { x with bme := on }
      | .msixFunctionMask on => { x with fmask := on })

/-- LINK_STATE_CHANGE: speed 0 is a link that is down. -/
def execLinkStateChange (e : Edge) (p : Port) (speed : BitVec 2) (s : State) : Host.Outcome State Fault Refusal :=
  onVx s fun v => v.linked e fun v =>
    let x := v.portOf p
    v.setPort p { x with linkUp := speed != 0, speed := speed }

/-- CORRECTABLE_ERROR. -/
def execCorrectableError (e : Edge) (p : Port) (s : State) : Host.Outcome State Fault Refusal :=
  onVx s fun v => v.live e fun v =>
    let x := v.portOf p
    (v.setPort p { x with aerCe := satTo 65535 (x.aerCe + 1) }).heat (match p with | .a => 0x1000 | .b => 0x1004) 1

end Sys2Proof.Machine
end

