-- ==== Sys2Proof/Machine/Dispatch.lean ====
section
/-! DEFINITION. One arm per constructor of Instr: a direct call of its meaning. -/

namespace Sys2Proof.Machine

open Sys2Proof

/-- What a command does to everything but the queue of waiting commands. -/
def exec (i : Instr) (s : State) : Host.Outcome State Fault Refusal :=
  match i with
  | .tick => Sys2Proof.Machine.execTick s
  | .templateIndexRead => Sys2Proof.Machine.execTemplateIndexRead s
  | .carrier en uW => Sys2Proof.Machine.execCarrier en uW s
  | .isoSlot en => Sys2Proof.Machine.execIsoSlot en s
  | .refresh en => Sys2Proof.Machine.execRefresh en s
  | .segDiag en failed => Sys2Proof.Machine.execSegDiag en failed s
  | .pocketSel en => Sys2Proof.Machine.execPocketSel en s
  | .railUpdate en vfb vax => Sys2Proof.Machine.execRailUpdate en vfb vax s
  | .balUpdate en mA => Sys2Proof.Machine.execBalUpdate en mA s
  | .chgUpdate en d => Sys2Proof.Machine.execChgUpdate en d s
  | .senseDiag en sa sb => Sys2Proof.Machine.execSenseDiag en sa sb s
  | .fanUpdate en => Sys2Proof.Machine.execFanUpdate en s
  | .motorUpdate en => Sys2Proof.Machine.execMotorUpdate en s
  | .brakeHold en => Sys2Proof.Machine.execBrakeHold en s
  | .chopperUpdate en vbus => Sys2Proof.Machine.execChopperUpdate en vbus s
  | .egressStep en => Sys2Proof.Machine.execEgressStep en s
  | .protScan en d => Sys2Proof.Machine.execProtScan en d s
  | .thermScan en codes die => Sys2Proof.Machine.execThermScan en codes die s
  | .dmaWindow en => Sys2Proof.Machine.execDmaWindow en s
  | .cxWindow en => Sys2Proof.Machine.execCxWindow en s
  | .pCleat en uW answered cut => Sys2Proof.Machine.execPCleat en uW answered cut s
  | .referenceLoss e noEdge freq => Sys2Proof.Machine.execReferenceLoss e noEdge freq s
  | .clockRestoreSwitch => Sys2Proof.Machine.execClockRestoreSwitch s
  | .pllLock => Sys2Proof.Machine.execPllLock s
  | .pllLockTimeout cause => Sys2Proof.Machine.execPllLockTimeout cause s
  | .fsyncPulse e width => Sys2Proof.Machine.execFsyncPulse e width s
  | .fsyncPulseMissing e => Sys2Proof.Machine.execFsyncPulseMissing e s
  | .holdoverExpiry => Sys2Proof.Machine.execHoldoverExpiry s
  | .syncInLoss e => Sys2Proof.Machine.execSyncInLoss e s
  | .syncInReturn e khz => Sys2Proof.Machine.execSyncInReturn e khz s
  | .syncInOutOfRange e khz => Sys2Proof.Machine.execSyncInOutOfRange e khz s
  | .frmCtlWrite e m be v => Sys2Proof.Machine.execFrmCtlWrite e m be v s
  | .imageLoadStart e m v => Sys2Proof.Machine.execImageLoadStart e m v s
  | .imageLoadData e rid bytes => Sys2Proof.Machine.execImageLoadData e rid bytes s
  | .imageLoadReadError e rid => Sys2Proof.Machine.execImageLoadReadError e rid s
  | .proofResult => Sys2Proof.Machine.execProofResult s
  | .imageSwapActivation => Sys2Proof.Machine.execImageSwapActivation s
  | .claim e m tag => Sys2Proof.Machine.execClaim e m tag s
  | .release e m => Sys2Proof.Machine.execRelease e m s
  | .offer e m target => Sys2Proof.Machine.execOffer e m target s
  | .withdraw e m => Sys2Proof.Machine.execWithdraw e m s
  | .accept e m tag => Sys2Proof.Machine.execAccept e m tag s
  | .decline e m => Sys2Proof.Machine.execDecline e m s
  | .takeover e m tag => Sys2Proof.Machine.execTakeover e m tag s
  | .halCmdUndefined e m cmd => Sys2Proof.Machine.execHalCmdUndefined e m cmd s
  | .halKick e m => Sys2Proof.Machine.execHalKick e m s
  | .owdLimitWrite e m be v => Sys2Proof.Machine.execOwdLimitWrite e m be v s
  | .ownerWatchdogExpiry => Sys2Proof.Machine.execOwnerWatchdogExpiry s
  | .offerExpiry => Sys2Proof.Machine.execOfferExpiry s
  | .flrStart e p => Sys2Proof.Machine.execFlrStart e p s
  | .flrEnd e p => Sys2Proof.Machine.execFlrEnd e p s
  | .perstAssert e p => Sys2Proof.Machine.execPerstAssert e p s
  | .perstDeassert e p => Sys2Proof.Machine.execPerstDeassert e p s
  | .sqTailDoorbell e m cl be v => Sys2Proof.Machine.execSqTailDoorbell e m cl be v s
  | .headDoorbell e m r be v => Sys2Proof.Machine.execHeadDoorbell e m r be v s
  | .descriptorData e rid words => Sys2Proof.Machine.execDescriptorData e rid words s
  | .descriptorFetchError e rid status => Sys2Proof.Machine.execDescriptorFetchError e rid status s
  | .bufferData e rid bytes => Sys2Proof.Machine.execBufferData e rid bytes s
  | .bufferReadError e rid => Sys2Proof.Machine.execBufferReadError e rid s
  | .fillData e rid bytes => Sys2Proof.Machine.execFillData e rid bytes s
  | .fillReadError e rid => Sys2Proof.Machine.execFillReadError e rid s
  | .completionTimeout e rid => Sys2Proof.Machine.execCompletionTimeout e rid s
  | .noCleatTimeout p => Sys2Proof.Machine.execNoCleatTimeout p s
  | .fieldHalt p en => Sys2Proof.Machine.execFieldHalt p en s
  | .unfurl p en => Sys2Proof.Machine.execUnfurl p en s
  | .furl p en => Sys2Proof.Machine.execFurl p en s
  | .reef p en => Sys2Proof.Machine.execReef p en s
  | .reefCap p en => Sys2Proof.Machine.execReefCap p en s
  | .segComp p en => Sys2Proof.Machine.execSegComp p en s
  | .legDrive p en => Sys2Proof.Machine.execLegDrive p en s
  | .isoActivate p en => Sys2Proof.Machine.execIsoActivate p en s
  | .apdu p en => Sys2Proof.Machine.execApdu p en s
  | .deselect p en => Sys2Proof.Machine.execDeselect p en s
  | .sessLimits p en => Sys2Proof.Machine.execSessLimits p en s
  | .energyCap p en => Sys2Proof.Machine.execEnergyCap p en s
  | .railSet p en => Sys2Proof.Machine.execRailSet p en s
  | .railKill p en => Sys2Proof.Machine.execRailKill p en s
  | .railOn p en => Sys2Proof.Machine.execRailOn p en s
  | .railOff p en => Sys2Proof.Machine.execRailOff p en s
  | .railRestart p en => Sys2Proof.Machine.execRailRestart p en s
  | .railOt p en => Sys2Proof.Machine.execRailOt p en s
  | .railSync p en => Sys2Proof.Machine.execRailSync p en s
  | .chgSet p en => Sys2Proof.Machine.execChgSet p en s
  | .chgOn p en => Sys2Proof.Machine.execChgOn p en s
  | .chgOff p en => Sys2Proof.Machine.execChgOff p en s
  | .chgKill p en => Sys2Proof.Machine.execChgKill p en s
  | .balSet p en => Sys2Proof.Machine.execBalSet p en s
  | .laneEgress p en => Sys2Proof.Machine.execLaneEgress p en s
  | .motorStop p en => Sys2Proof.Machine.execMotorStop p en s
  | .motorEnable p en => Sys2Proof.Machine.execMotorEnable p en s
  | .motorDrive p en => Sys2Proof.Machine.execMotorDrive p en s
  | .flapMove p en => Sys2Proof.Machine.execFlapMove p en s
  | .motorBrake p en => Sys2Proof.Machine.execMotorBrake p en s
  | .motorRelease p en => Sys2Proof.Machine.execMotorRelease p en s
  | .mbusOv p en => Sys2Proof.Machine.execMbusOv p en s
  | .chopperSet p en => Sys2Proof.Machine.execChopperSet p en s
  | .egressArm p en => Sys2Proof.Machine.execEgressArm p en s
  | .egressDisarm p en => Sys2Proof.Machine.execEgressDisarm p en s
  | .fanRow p en => Sys2Proof.Machine.execFanRow p en s
  | .fanMode p en => Sys2Proof.Machine.execFanMode p en s
  | .fanHyst p en => Sys2Proof.Machine.execFanHyst p en s
  | .fanTach p en => Sys2Proof.Machine.execFanTach p en s
  | .fanWdog p en => Sys2Proof.Machine.execFanWdog p en s
  | .fanRestore p en => Sys2Proof.Machine.execFanRestore p en s
  | .thermSet p en => Sys2Proof.Machine.execThermSet p en s
  | .cxFill p en => Sys2Proof.Machine.execCxFill p en s
  | .cxSpill p en => Sys2Proof.Machine.execCxSpill p en s
  | .cxPin p en => Sys2Proof.Machine.execCxPin p en s
  | .cxUnpin p en => Sys2Proof.Machine.execCxUnpin p en s
  | .cxHint p en => Sys2Proof.Machine.execCxHint p en s
  | .cxKey p en => Sys2Proof.Machine.execCxKey p en s
  | .cxRetire p en => Sys2Proof.Machine.execCxRetire p en s
  | .spoilSet p en => Sys2Proof.Machine.execSpoilSet p en s
  | .imageSwap p en => Sys2Proof.Machine.execImageSwap p en s
  | .keyFuse p en => Sys2Proof.Machine.execKeyFuse p en s
  | .keyFuseReadback hash => Sys2Proof.Machine.execKeyFuseReadback hash s
  | .keyRevoke p en => Sys2Proof.Machine.execKeyRevoke p en s
  | .diagStart p en => Sys2Proof.Machine.execDiagStart p en s
  | .diagNoActivity p => Sys2Proof.Machine.execDiagNoActivity p s
  | .faultClear p en => Sys2Proof.Machine.execFaultClear p en s
  | .quiet p en => Sys2Proof.Machine.execQuiet p en s
  | .resume p en => Sys2Proof.Machine.execResume p en s
  | .clockRestore p en failing => Sys2Proof.Machine.execClockRestore p en failing s
  | .frameResync p en => Sys2Proof.Machine.execFrameResync p en s
  | .commitPair p en => Sys2Proof.Machine.execCommitPair p en s
  | .qState p en => Sys2Proof.Machine.execQState p en s
  | .qCounters p en => Sys2Proof.Machine.execQCounters p en s
  | .qFaults p en => Sys2Proof.Machine.execQFaults p en s
  | .qLedger p en => Sys2Proof.Machine.execQLedger p en s
  | .qContext p en => Sys2Proof.Machine.execQContext p en s
  | .qImage p en => Sys2Proof.Machine.execQImage p en s
  | .segmentShort e x => Sys2Proof.Machine.execSegmentShort e x s
  | .openLoad e x => Sys2Proof.Machine.execOpenLoad e x s
  | .bootstrapFault e x legA legB => Sys2Proof.Machine.execBootstrapFault e x legA legB s
  | .bootstrapReady e x => Sys2Proof.Machine.execBootstrapReady e x s
  | .bootstrapTimeout e x => Sys2Proof.Machine.execBootstrapTimeout e x s
  | .isoAnswer e sg f => Sys2Proof.Machine.execIsoAnswer e sg f s
  | .isoAnswerTimeout e sg => Sys2Proof.Machine.execIsoAnswerTimeout e sg s
  | .sessionTimeout p => Sys2Proof.Machine.execSessionTimeout p s
  | .hello e h bits => Sys2Proof.Machine.execHello e h bits s
  | .energyReport e h bits => Sys2Proof.Machine.execEnergyReport e h bits s
  | .reportTimeout e h => Sys2Proof.Machine.execReportTimeout e h s
  | .beaconExhausted e h => Sys2Proof.Machine.execBeaconExhausted e h s
  | .fragment cells samples => Sys2Proof.Machine.execFragment cells samples s
  | .copyTimeout copyB tag => Sys2Proof.Machine.execCopyTimeout copyB tag s
  | .directiveJudgeTimeout => Sys2Proof.Machine.execDirectiveJudgeTimeout s
  | .assign => Sys2Proof.Machine.execAssign s
  | .opSet => Sys2Proof.Machine.execOpSet s
  | .vtgtSet => Sys2Proof.Machine.execVtgtSet s
  | .ichgStage => Sys2Proof.Machine.execIchgStage s
  | .vchgStage => Sys2Proof.Machine.execVchgStage s
  | .pgStage => Sys2Proof.Machine.execPgStage s
  | .commit => Sys2Proof.Machine.execCommit s
  | .policy => Sys2Proof.Machine.execPolicy s
  | .keep => Sys2Proof.Machine.execKeep s
  | .directiveRelease => Sys2Proof.Machine.execDirectiveRelease s
  | .beacon => Sys2Proof.Machine.execBeacon s
  | .remoteModeTimeout => Sys2Proof.Machine.execRemoteModeTimeout s
  | .coldStart r => Sys2Proof.Machine.execColdStart r s
  | .cellSample x => Sys2Proof.Machine.execCellSample x s
  | .temperatureSample t => Sys2Proof.Machine.execTemperatureSample t s
  | .trackerStep uW => Sys2Proof.Machine.execTrackerStep uW s
  | .trickleTimeout => Sys2Proof.Machine.execTrickleTimeout s
  | .prechargeTimeout => Sys2Proof.Machine.execPrechargeTimeout s
  | .cvTermination => Sys2Proof.Machine.execCvTermination s
  | .restAnchor vcs => Sys2Proof.Machine.execRestAnchor vcs s
  | .gaugeCompare => Sys2Proof.Machine.execGaugeCompare s
  | .gaugeSubtraction => Sys2Proof.Machine.execGaugeSubtraction s
  | .chargeOverCurrent icell => Sys2Proof.Machine.execChargeOverCurrent icell s
  | .chargeOcRestart => Sys2Proof.Machine.execChargeOcRestart s
  | .dischargeOverCurrent uA => Sys2Proof.Machine.execDischargeOverCurrent uA s
  | .loadSwitchRetry => Sys2Proof.Machine.execLoadSwitchRetry s
  | .loadShort vload => Sys2Proof.Machine.execLoadShort vload s
  | .underVoltageCut vcs => Sys2Proof.Machine.execUnderVoltageCut vcs s
  | .supervisionSample edges vcs charge => Sys2Proof.Machine.execSupervisionSample edges vcs charge s
  | .wake vrect us => Sys2Proof.Machine.execWake vrect us s
  | .supTimeExpiry => Sys2Proof.Machine.execSupTimeExpiry s
  | .nap => Sys2Proof.Machine.execNap s
  | .lvQgLoWrite v => Sys2Proof.Machine.execLvQgLoWrite v s
  | .nvRead => Sys2Proof.Machine.execNvRead s
  | .nvWrite => Sys2Proof.Machine.execNvWrite s
  | .nvmWriteComplete verified => Sys2Proof.Machine.execNvmWriteComplete verified s
  | .nvApply => Sys2Proof.Machine.execNvApply s
  | .blowLimits => Sys2Proof.Machine.execBlowLimits s
  | .blowIssued => Sys2Proof.Machine.execBlowIssued s
  | .i2cRegisterWrite addr v => Sys2Proof.Machine.execI2cRegisterWrite addr v s
  | .txmEdge high => Sys2Proof.Machine.execTxmEdge high s
  | .fieldEnvelopeChange below => Sys2Proof.Machine.execFieldEnvelopeChange below s
  | .railDelayExpiry e r vout => Sys2Proof.Machine.execRailDelayExpiry e r vout s
  | .slewStep k r => Sys2Proof.Machine.execSlewStep k r s
  | .peakLimit e r ph => Sys2Proof.Machine.execPeakLimit e r ph s
  | .negativeLimit e r ph => Sys2Proof.Machine.execNegativeLimit e r ph s
  | .overCurrentLatchOff e r ph => Sys2Proof.Machine.execOverCurrentLatchOff e r ph s
  | .hardShort e r ph => Sys2Proof.Machine.execHardShort e r ph s
  | .pulseTruncation e r vout => Sys2Proof.Machine.execPulseTruncation e r vout s
  | .outputOverVoltage e r vout => Sys2Proof.Machine.execOutputOverVoltage e r vout s
  | .inputUnderVoltage e vbus => Sys2Proof.Machine.execInputUnderVoltage e vbus s
  | .hallEdge e n code => Sys2Proof.Machine.execHallEdge e n code s
  | .hallWindowClose e n => Sys2Proof.Machine.execHallWindowClose e n s
  | .startTimeout e n => Sys2Proof.Machine.execStartTimeout e n s
  | .motionUpdateTimeout e n => Sys2Proof.Machine.execMotionUpdateTimeout e n s
  | .brakingTimeout e n => Sys2Proof.Machine.execBrakingTimeout e n s
  | .motorShort e n => Sys2Proof.Machine.execMotorShort e n s
  | .motorBootstrapFault e n => Sys2Proof.Machine.execMotorBootstrapFault e n s
  | .mbusOverVoltage e vbus => Sys2Proof.Machine.execMbusOverVoltage e vbus s
  | .chopperComparator e vbus => Sys2Proof.Machine.execChopperComparator e vbus s
  | .directModePin e n leg en p => Sys2Proof.Machine.execDirectModePin e n leg en p s
  | .egressLaneStart l => Sys2Proof.Machine.execEgressLaneStart l s
  | .egressStop => Sys2Proof.Machine.execEgressStop s
  | .pStat e msg => Sys2Proof.Machine.execPStat e msg s
  | .pMeas e peak halfPeriod good => Sys2Proof.Machine.execPMeas e peak halfPeriod good s
  | .sCmd priOn good => Sys2Proof.Machine.execSCmd priOn good s
  | .barrierLinkLoss e => Sys2Proof.Machine.execBarrierLinkLoss e s
  | .secondaryDark => Sys2Proof.Machine.execSecondaryDark s
  | .mainsLoss => Sys2Proof.Machine.execMainsLoss s
  | .mainsBrownOut => Sys2Proof.Machine.execMainsBrownOut s
  | .mainsPresent dc peak halfPeriod => Sys2Proof.Machine.execMainsPresent dc peak halfPeriod s
  | .mainsOverVoltage => Sys2Proof.Machine.execMainsOverVoltage s
  | .primaryPowerOn => Sys2Proof.Machine.execPrimaryPowerOn s
  | .egressNAssert e => Sys2Proof.Machine.execEgressNAssert e s
  | .stackLow e => Sys2Proof.Machine.execStackLow e s
  | .fanWatchdogExpiry => Sys2Proof.Machine.execFanWatchdogExpiry s
  | .tachEdge e cl => Sys2Proof.Machine.execTachEdge e cl s
  | .laneInputChange e n level => Sys2Proof.Machine.execLaneInputChange e n level s
  | .tooth e => Sys2Proof.Machine.execTooth e s
  | .toothWindowClose e => Sys2Proof.Machine.execToothWindowClose e s
  | .home e => Sys2Proof.Machine.execHome e s
  | .powerOnReset => Sys2Proof.Machine.execPowerOnReset s
  | .powerOnRelease vioMv => Sys2Proof.Machine.execPowerOnRelease vioMv s
  | .supplyDip => Sys2Proof.Machine.execSupplyDip s
  | .softwareReset e m be v => Sys2Proof.Machine.execSoftwareReset e m be v s
  | .registerWrite e m a be v => Sys2Proof.Machine.execRegisterWrite e m a be v s
  | .rcFieldRead e m a => Sys2Proof.Machine.execRcFieldRead e m a s
  | .nowOfsRead e m => Sys2Proof.Machine.execNowOfsRead e m s
  | .spiFrame e mode3 bytes spare => Sys2Proof.Machine.execSpiFrame e mode3 bytes spare s
  | .unsupportedRequest e p k => Sys2Proof.Machine.execUnsupportedRequest e p k s
  | .configurationWrite e p f => Sys2Proof.Machine.execConfigurationWrite e p f s
  | .linkStateChange e p speed => Sys2Proof.Machine.execLinkStateChange e p speed s
  | .correctableError e p => Sys2Proof.Machine.execCorrectableError e p s
  | .referenceCauseOnBackup e cause => Sys2Proof.Machine.execReferenceCauseOnBackup e cause s
  | .inputUnderVoltageClear e vbus => Sys2Proof.Machine.execInputUnderVoltageClear e vbus s
  | .egressNRise e => Sys2Proof.Machine.execEgressNRise e s
  | .openLoopStep e n => Sys2Proof.Machine.execOpenLoopStep e n s
  | .conveyorRunEdge e high => Sys2Proof.Machine.execConveyorRunEdge e high s
  | .vloadRegulationChange inReg => Sys2Proof.Machine.execVloadRegulationChange inReg s

end Sys2Proof.Machine
end

