-- ==== Sys2Proof/Safety.lean ====
section
/-! DEFINITION. The terms in which the claims speak: an operation that begins in its cleat, the state its effect sees, the
state a setting leaves for the tick, what the commands of one die leave alone, and what a safe step is. -/

namespace Sys2Proof.Safety

open Sys2Proof Sys2Proof.Machine

/-- The secondary die runs and its frames are ticking. -/
def Ticks (v : Vexone) : Prop := v.alive = true ∧ v.clk.ticking = true

/-- Operation o, at place p, is the one that takes entry i, which is e, of the running template at its start (05 R163, R164). -/
def Begins (v : Vexone) (p : Place) (i : Nat) (o : Op) (e : Entry) : Prop :=
  Ticks v ∧ v.sch.used.contains i = false ∧ v.entry i = some e ∧ (v.atEdge e.start).opAt p = some o ∧
  (v.atEdge e.start).taker e = some o

/-- The state that the checks and the effect of an operation see: what fell due up to the start of its cleat has happened, the
cleat is used, the fan watchdog reloaded where it is the owner's (14 R505) and the operation running. -/
def begun (v : Vexone) (p : Place) (i : Nat) (o : Op) (e : Entry) : Vexone :=
  let w := v.atEdge e.start
  (({ w with sch := { w.sch with used := w.sch.used ++ [i] } } : Vexone).fanKick o.m).modOp p fun x => { x with phase := .running }

/-- The state that an operation leaves whose setting waits for the tick (05 R168): the setting is due, and the completion,
with ST_OK and a DETAIL, is in the holding store. -/
def leavesDue (v : Vexone) (p : Place) (i : Nat) (o : Op) (e : Entry) (x : Setting) (detail : Nat) : Vexone :=
  ((begun v p i o e).pushDue p x).finish o e 0x00 detail

/-- The state that an operation leaves which fails with a status (05 R167). -/
def leavesFailed (v : Vexone) (p : Place) (i : Nat) (o : Op) (e : Entry) (status detail : Nat) : Vexone :=
  (begun v p i o e).finish o e status detail

/-- The opcode, the arguments and the image that every operation of a family with an active image wants, in the state that its
checks see: opcode k, no reserved bit set and a TARGET in range (05 R162, R166). -/
def Asks (b : Vexone) (o : Op) (k : Nat) : Prop := o.opcode = k ∧ o.reservedBad = false ∧ b.active.isSome = true

/-- The state with another secondary die, and with another pass die. -/
def withVx (s : State) (v : Vexone) : State := { s with vx := v }
def withLav (s : State) (l : Lalvo) : State := { s with lav := l }

/-- The operation at a place waits in the holding store with a completion of a status and a DETAIL. -/
def CompletesWith (v : Vexone) (p : Place) (status detail : Nat) : Prop :=
  ∃ o c, v.opAt p = some o ∧ o.phase = .complete c ∧ c.status = BitVec.ofNat 8 status ∧ c.detail = BitVec.ofNat 16 detail

/-- A place holds an operation. -/
def Holds (v : Vexone) (p : Place) : Prop := ∃ o, v.opAt p = some o

/-- Nothing outside the secondary die has changed. -/
def OnlyVexone (s t : State) : Prop := t.pending = s.pending ∧ t.otp = s.otp ∧ t.pri = s.pri ∧ t.lav = s.lav

/-- Nothing but the primary die has changed. -/
def OnlyPrimary (s t : State) : Prop := t.pending = s.pending ∧ t.otp = s.otp ∧ t.vx = s.vx ∧ t.lav = s.lav

/-- PRI_EN as 13 R475 has it: with the mains present, and the secondary dark or PRI_ON given. -/
def PriEnHolds (p : Primary) : Prop := p.priEn = true ↔ p.st = .present ∧ (p.dark = true ∨ p.priOn = true)

/-- Nothing but the pass die has changed. -/
def OnlyLalvo (s t : State) : Prop := t.pending = s.pending ∧ t.otp = s.otp ∧ t.pri = s.pri ∧ t.vx = s.vx

/-- No segment carries or is ready to: every one is furled or in fault-off (07 Table 7-2). -/
def AllFurled (v : Vexone) : Prop := ∀ k : SegId, v.segs[k].live = false

/-- Entry i of the running template is e, an activity with a code (02 R55). -/
def Activity (v : Vexone) (i code : Nat) (e : Entry) : Prop := Ticks v ∧ v.entry i = some e ∧ e.kind = 0 ∧ e.code = code

/-- A segment does not carry on: it is furled, in fault-off, or its furl waits for its zero crossing (07 R251). -/
def FurlDue (x : Seg) : Prop := x.live = false ∨ ∃ step, x.act = some (step, .furl)

/-- No segment carries on. -/
def AllFurlDue (v : Vexone) : Prop := ∀ k : SegId, FurlDue v.segs[k]

/-- What of a segment its gate outputs follow (07 R232 to R242): its state, the vector applied, the change under way and the
waits. -/
def drive (x : Seg) : SegPhase × Option (Nat × SegDo) × Nat × Nat × Nat × Nat × Bool × Bool × Nat :=
  (x.phase, x.act, x.p, x.s, x.from_, x.dead, x.rest, x.waitBst, x.pulseTo)

/-- No segment's gate outputs change. -/
def SameDrives (v w : Vexone) : Prop := ∀ k : SegId, drive w.segs[k] = drive v.segs[k]

/-- An effect is left for a CCLK time. -/
def Leaves (v : Vexone) (t : Nat) (x : Later) : Prop := ({ at_ := t, what := x } : Timed) ∈ v.later

/-- What an entry that applies the vector p, a until an edge makes of segment x of a lane: y (07 R233, R237, R238, R242). A furled
segment, one in fault-off and a dark one that its pocket keeps dark are left; a running one takes the vector, its amplitude capped,
at its zero crossing; a dark one whose bootstraps are good starts at the next period boundary, another waits 512 CCLK for them. -/
def Applied (v : Vexone) (x y : Seg) (p a cap hold : Nat) : Prop :=
  let a := min a cap
  (x.phase = .furled ∨ x.phase = .faultOff ∨ (x.phase = .dark ∧ (x.skipped = true ∨ x.guarded = true)) → drive y = drive x) ∧
  (x.phase = .carrying → y.phase = .carrying ∧ y.holdTo = hold ∧ y.p = x.p ∧ y.s = x.s ∧ y.rest = x.rest ∧
    (x.rest = true ∨ x.stopping = true → y.act = x.act) ∧
    (x.rest = false → x.stopping = false → y.act = if x.p = p ∧ x.s = a then none else some (v.crossing x v.step4, .vector p a))) ∧
  (x.phase = .dark → x.skipped = false → x.guarded = false → y.phase = .dark ∧ y.holdTo = hold ∧
    (x.bstA = true ∧ x.bstB = true → y.act = some (v.boundary, .start p a)) ∧
    (x.bstA = false ∨ x.bstB = false → y.waitBst = true ∧ y.waitTo = v.now + 512 ∧ y.act = x.act))

/-- Operation o, at place p, is the session operation that a P cleat, entry i, which is e, begins: it was bound with its handle to
that cleat by b and its context is c (05 R172; 15 R525). -/
def BeginsSession (v : Vexone) (p : Place) (i : Nat) (o : Op) (e : Entry) (b : Binding) (c : Ctx) : Prop :=
  Ticks v ∧ v.entry i = some e ∧ e.kind = 1 ∧ e.cls = 2 ∧
  let w := v.atEdge e.start
  w.opAt p = some o ∧ o.cls = .p ∧ o.phase = .admitted ∧
  w.sch.bind.find? (fun x => (x.first == i || x.second == i) && x.op == some o.seq && !x.lost) = some b ∧
  w.ctxOf o.handle = some c ∧ w.inSession o.handle = false

/-- The state that the checks of a session operation see. -/
def begunSession (v : Vexone) (p : Place) (o : Op) (e : Entry) : Vexone :=
  ((v.atEdge e.start).fanKick o.m).modOp p fun x => { x with phase := .running }

/-- A setting that starts a rail. -/
def startsRail (r : RailId) : Setting → Bool
  | .railOn q _ => q == r
  | .railRestart q => q == r
  | _ => false

/-- The lanes among those asked for that no egress has yet judged or taken (13 R478; 12 R453). -/
def NewLanes (v : Vexone) (asked new : BitVec 4) : Prop :=
  ∀ l : LaneId, new.getLsbD l.val = (asked.getLsbD l.val && !v.eg.judged.getLsbD l.val && (v.egLane l).isNone)

/-- The cells that spell some bits. -/
def cellsOf (bs : List Bool) : List SbCell := bs.map fun b => if b then SbCell.one else SbCell.zero

/-- What the model keeps of a word being programmed: it is none that a fuse has closed. -/
def NvmOpen (l : Lalvo) : Prop :=
  l.nvBusy = true → l.nvm.issued = false ∧ l.nvAddr ≠ 0 ∧ l.nvAddr ≠ 63 ∧ ¬ (56 ≤ l.nvAddr.toNat ∧ l.nvAddr.toNat ≤ 61) ∧
    (l.nvm.limits = true → ¬ (48 ≤ l.nvAddr.toNat ∧ l.nvAddr.toNat ≤ 55))

/-- The operations of 05 Tables 5-3 to 5-12 that begin in a U, C or B cleat, with their opcodes. -/
def operations : List (Nat × (Place → Nat → Instr)) :=
  [ (0x1104, .sessLimits), (0x1105, .energyCap), (0x1201, .fieldHalt), (0x1202, .unfurl), (0x1203, .furl),
    (0x1204, .reef), (0x1205, .reefCap), (0x1206, .segComp), (0x1207, .legDrive), (0x1301, .railSet),
    (0x1302, .railKill), (0x1303, .railOn), (0x1304, .railOff), (0x1305, .railRestart), (0x1306, .railOt),
    (0x1307, .railSync), (0x1401, .laneEgress), (0x1402, .motorStop), (0x1403, .motorEnable), (0x1404, .motorDrive),
    (0x1405, .flapMove), (0x1406, .motorBrake), (0x1407, .motorRelease), (0x1408, .mbusOv), (0x1409, .chopperSet),
    (0x140A, .egressArm), (0x140B, .egressDisarm), (0x1501, .fanRow), (0x1502, .fanMode), (0x1503, .fanHyst),
    (0x1504, .fanTach) ] ++
  [ (0x1505, .fanWdog), (0x1506, .fanRestore), (0x1507, .thermSet), (0x1601, .chgSet), (0x1602, .chgOn),
    (0x1603, .chgOff), (0x1604, .chgKill), (0x1605, .balSet), (0x1701, .cxFill), (0x1702, .cxSpill),
    (0x1703, .cxPin), (0x1704, .cxUnpin), (0x1705, .cxHint), (0x1706, .cxKey), (0x1707, .cxRetire),
    (0x1708, .spoilSet), (0x1801, .imageSwap), (0x1802, .keyFuse), (0x1803, .keyRevoke), (0x1901, .diagStart),
    (0x1A01, .faultClear), (0x1A02, .quiet), (0x1A03, .resume), (0x1A04, fun p i => .clockRestore p i none), (0x1A05, .frameResync),
    (0x1A06, .commitPair), (0x1B01, .qState), (0x1B02, .qCounters), (0x1B03, .qFaults), (0x1B04, .qLedger),
    (0x1B05, .qContext), (0x1B06, .qImage) ]

/-- The query operations that name a record of KIND and index, with the record each of them copies. -/
def kindQueries : List (Nat × (Place → Nat → Instr) × (Vexone → Nat → Nat → Option (List Byte))) :=
  [(0x1B01, .qState, Vexone.stateRecord), (0x1B02, .qCounters, Vexone.counterRecord)]

/-- The query operations that name nothing, with what each of them copies. -/
def plainQueries : List (Nat × (Place → Nat → Instr) × (Vexone → List Byte)) :=
  [(0x1B03, .qFaults, Vexone.faultList), (0x1B06, .qImage, Vexone.imageRecord)]

/-- The query operations that name a handle, with what each of them copies of a resident context. -/
def handleQueries : List (Nat × (Place → Nat → Instr) × (Vexone → HEntry → Ctx → List Byte)) :=
  [(0x1B04, .qLedger, fun v h c => ((v.contextBytes h c).drop 0x30).take 24), (0x1B05, .qContext, Vexone.contextBytes)]

/-- What a device reset leaves of the secondary die (16 R542, R543): no image, the Halyard free, no egress, every register at
its reset value, no handle, no fault, every segment furled, every stage, motor and charger off; a new wrapping key. -/
def ResetOf (v w : Vexone) (cause : BitVec 3) : Prop :=
  w.pw.rstCause = cause ∧ w.active = none ∧ w.img = Images.reset ∧ w.hal = Halyard.reset ∧ w.eg = Egress.reset ∧
  w.regs = Regs.reset ∧ w.fr = FrameRole.reset ∧ w.faults = [] ∧ w.ops = [] ∧ w.due = [] ∧ AllFurled w ∧
  w.fb = Rail.reset 200 ∧ w.ax = Rail.reset 100 ∧ w.res = Reservoir.reset ∧ (∀ n : MotorId, w.motors[n].st = .disabled) ∧
  w.cx = { Cx.reset with wrap := v.cx.wrap + 1 }

/-- A safe step: it answers a next state, neither a fault nor a refusal. -/
def SafeStep (s : State) : Prop := ∃ t, step s = .next t

end Sys2Proof.Safety
end

