-- ==== Sys2Proof/Certificates/Slice0/Obligations.lean ====
section
/-! DEFINITION. The statements for the provers. Each says what the spec's rules say of the commands that it names; what its docstring
gives to a log entry is the model's choice and no rule of the spec. A command that brings an edge acts on the state that the
device has reached of itself at that edge (`atEdge`, log entry 2; `accessed` for an access, `begun` for an operation). -/

open Sys2Proof Sys2Proof.Machine Sys2Proof.Safety

/-- The block's one step: the command at the front of the queue runs with the queue's rest (the model's own rule for a block;
log entry 3). -/
def Obligations.StepRunsTheFrontCommand : Prop :=
  ∀ (s : State) (c : Instr) (q : List Instr),
    step { s with pending := c :: q } = exec c { s with pending := q } ∧ step { s with pending := [] } = .next { s with pending := [] }

/-- 15 R518 to R521 (how time passes between commands is the model's choice, log entry 2): up to an edge everything that falls due
by then happens, earliest first, and nothing later; where nothing falls due only the edge moves, and never back. -/
def Obligations.EffectsHappenAtTheirEdges : Prop :=
  ∀ (v : Vexone) (n : Nat),
    (v.later = [] → v.atEdge n = { v with clk := { v.clk with edge := max v.clk.edge n } }) ∧
    (∀ x rest, v.later = x :: rest → v.clk.t0 + n < x.at_ → v.atEdge n = { v with clk := { v.clk with edge := max v.clk.edge n } }) ∧
    (∀ x, v.later = [x] → x.at_ ≤ v.clk.t0 + n →
      let w := (({ v with later := [], clk := { v.clk with edge := max v.clk.edge (x.at_ - v.clk.t0) } } : Vexone).runLater x.what)
      w.later = [] → v.atEdge n = { w with clk := { w.clk with edge := max w.clk.edge n } }) ∧
    (∀ x, Leaves (v.leave n x) n x) ∧
    ∀ x t, v.later.Pairwise (fun a b => a.at_ ≤ b.at_) → (v.leave t x).later.Pairwise fun a b => a.at_ ≤ b.at_

/-- 07 R230, R237, R239, R241, R251, R264: a furl of a running segment waits for its first zero crossing, which lies at the rise of
leg A of the vector that it has, at most a period and its first rise away; then the segment is furled, with a refresh pulse of
64 CCLK; a second furl moves nothing. A stop leaves it dark with the same pulse. A change of vector takes the new vector at that
step, and a start takes it into carrying. No other segment's outputs change. -/
def Obligations.SegmentsChangeAtTheirCrossings : Prop :=
  ∀ (v : Vexone) (k : SegId),
    let x := v.segs[k]
    let others := fun (w : Vexone) => ∀ j : SegId, j ≠ k → drive w.segs[j] = drive v.segs[j]
    (∀ step, v.frameStep ≤ step → let c := v.crossing x step
      step ≤ c ∧ x.from_ + 16 ≤ c ∧ c ≤ max step (x.from_ + 16) + 63 ∧
      (c - v.frameStep) % 64 = riseA x.p x.s) ∧
    (x.runs = true → x.stopping = false → (v.furl k).segs[k] = { x with act := some (v.crossing x v.step4, .furl) } ∧ others (v.furl k) ∧
      Leaves (v.furl k) (edgeOf (v.crossing x v.step4)) (.segment k)) ∧
    (∀ n, x.runs = true → x.act = some (n, .furl) → v.furl k = v) ∧
    (x.live = true → x.runs = false → (v.furl k).segs[k].phase = .furled ∧ (v.furl k).segs[k].pulseTo = v.now + 64 ∧ others (v.furl k)) ∧
    (∀ n d, x.act = some (n, d) → edgeOf n ≤ v.now →
      others (v.segAct k) ∧ (d = .furl → x.live = true → (v.segAct k).segs[k].phase = .furled ∧ (v.segAct k).segs[k].pulseTo = v.now + 64) ∧
      (d = .dark → x.live = true → (v.segAct k).segs[k].phase = .dark ∧ (v.segAct k).segs[k].pulseTo = v.now + 64) ∧
      (∀ p a, d = .vector p a → (v.segAct k).segs[k] = { x with act := none, p := p, s := a, from_ := n }) ∧
      (∀ p a, d = .start p a → (v.segAct k).segs[k].phase = .carrying ∧ (v.segAct k).segs[k].p = p ∧ (v.segAct k).segs[k].s = a)) ∧
    (∀ n d, x.act = some (n, d) → v.now < edgeOf n → v.segAct k = v)

/-- 07 R232, R234, R235; 12 R415, R422: a leg of a carrying segment conducts high from DEAD steps after its rise to half a period
after it and low from DEAD steps after that on; a motor's PWM leg conducts high in the first part of each period, its duty, low in
the rest, each side DEAD CCLK late, and PWM periods divide a frame; the shoot-through interlock lets no leg conduct on both
sides, at any time, of any segment or motor, and in fault-off nothing conducts. -/
def Obligations.LegsConductBehindTheirInterlock : Prop :=
  (∀ (x : Seg) (step : Nat),
    ¬ ((x.legs step).a.1 = true ∧ (x.legs step).a.2 = true) ∧ ¬ ((x.legs step).b.1 = true ∧ (x.legs step).b.2 = true) ∧
    (x.phase = .faultOff → x.legs step = { a := (false, false), b := (false, false) }) ∧
    (x.phase = .carrying → x.rest = false → x.dips = [] → x.from_ + 80 ≤ step →
      let ageA := (step + 64 - riseA x.p x.s) % 64
      let ageB := (step + 64 - riseB x.p x.s) % 64
      x.legs step = { a := (decide (x.dead ≤ ageA ∧ ageA < 32), decide (32 + x.dead ≤ ageA))
                      b := (decide (x.dead ≤ ageB ∧ ageB < 32), decide (32 + x.dead ≤ ageB)) })) ∧
  (∀ c < 4, frameLen % pwmPeriod c = 0) ∧ (pwmPeriod 0 = 10848 ∧ pwmPeriod 1 = 9040 ∧ pwmPeriod 2 = 7232 ∧ pwmPeriod 3 = 5424) ∧
  ∀ (v : Vexone) (n : MotorId) (k : Fin 3) (t : Nat),
    let x := v.motors[n]
    let period := pwmPeriod (v.mf n 0x04 15 14)
    let duty := pwmDuty period x.duty
    let at_ := (t - v.clk.t0) % period
    ¬ ((v.motorLeg n k t).1 = true ∧ (v.motorLeg n k t).2 = true) ∧
    (x.st = .faultOff ∨ x.st = .disabled → x.turnAt + x.dead ≤ t → v.motorLeg n k t = (false, false)) ∧
    ((v.legRoles n)[k] = .pwm → x.turnAt + x.dead ≤ t → v.clk.t0 ≤ t →
      (0 < duty → duty < period → v.motorLeg n k t = (decide (x.dead ≤ at_ ∧ at_ < duty), decide (duty + x.dead ≤ at_))) ∧
      (x.duty.natAbs = 1000 → v.motorLeg n k t = (true, false)) ∧ (x.duty = 0 → v.motorLeg n k t = (false, true)))

/-- 01 R42 to R44, Table 1-5: a declared loss of the reference holds LOCK at zero and CAUSE at its code, voids every pending UNFURL
and leaves, 16 CCLK on, the switch to the backup, 32 on the furl of every segment and 48 on the latching of the code; rails, motors,
fans, reservoir, mains and Halyard go on. A loss met on the backup clock changes nothing. -/
def Obligations.ReferenceLossFurlsAndSwitches : Prop :=
  (∀ (s : State) (e : Edge) (noEdge freq : Bool), s.vx.alive = true →
    let w := s.vx.atEdge e.val
    let c := refCode (refFirst noEdge freq)
    (w.pw.stage ≠ .held → w.onBackup = false → ∃ t, exec (.referenceLoss e noEdge freq) s = .next t ∧ OnlyVexone s t ∧
      t.vx.onBackup = true ∧ t.vx.clk.lock = false ∧ t.vx.clk.inexactNext = true ∧ t.vx.clk.cause = BitVec.ofNat 8 c ∧
      t.vx.clk.frame = w.clk.frame ∧ t.vx.unfurlPending = 0 ∧ t.vx.segs = w.segs ∧ t.vx.faults = w.faults ∧
      t.vx.fb = w.fb ∧ t.vx.ax = w.ax ∧ t.vx.motors = w.motors ∧ t.vx.fans = w.fans ∧
      t.vx.res = w.res ∧ t.vx.mains = w.mains ∧ t.vx.hal = w.hal ∧ t.vx.regs = w.regs ∧
      Leaves t.vx (w.now + 16) .clockSwitch ∧ Leaves t.vx (w.now + 32) .clockFurl ∧ Leaves t.vx (w.now + 48) (.clockFault c)) ∧
    (w.onBackup = true → exec (.referenceLoss e noEdge freq) s = .next (withVx s w))) ∧
  (refFirst true true = .noEdge ∧ refFirst true false = .noEdge ∧ refFirst false true = .freq ∧ refFirst false false = .pll) ∧
  ∀ (v : Vexone) (c : RefCause), (v.runLater .clockSwitch).clk.backup = true ∧ AllFurlDue (v.runLater .clockFurl) ∧
    (v.runLater (.clockFault (refCode c))).latched (refCode c) 0 = true ∧ (v.runLater (.clockFault (refCode c))).segs = v.segs

/-- 01 R45: CLOCK_RESTORE on the backup clock, with a reference that meets R42 and no earlier restore, waits for the
switching tick; CLOCK_RESTORE_SWITCH at that tick returns CCLK to the reference, clears INEXACT and completes it with
ST_OK. 01 R42, R45: a cause met on the backup clock keeps CCLK there, latches nothing, and completes a restore under
way with ST_CLOCK and the code of the cause; a PLL that has not locked 20 ms after the release latches its cause (16
R549). -/
def Obligations.ClockRestoreReturnsOrEnds : Prop :=
  (∀ (s : State) (p : Place),
     (∀ (i : Nat) (o : Op) (e : Entry), Begins s.vx p i o e → o.opcode = 0x1A04 → o.reservedBad = false →
       let b := begun s.vx p i o e
       b.onBackup = true → b.clk.restore = none →
       exec (.clockRestore p i none) s = .next (withVx s { b with clk := { b.clk with restore := some p, xiOk := true } })) ∧
     (Ticks s.vx → s.vx.clk.edge = 0 → s.vx.clk.backup = true → s.vx.clk.restore = some p → Holds s.vx p →
       ∃ t, exec .clockRestoreSwitch s = .next t ∧ OnlyVexone s t ∧ t.vx.onBackup = false ∧ t.vx.clk.lock = true ∧
         t.vx.clk.inexact = false ∧ t.vx.clk.restore = none ∧ t.vx.clk.cause = 0 ∧ t.vx.segs = s.vx.segs ∧
         CompletesWith t.vx p 0x00 0)) ∧
  (∀ (s : State) (e : Edge) (c : RefCause), s.vx.alive = true →
     let w := s.vx.atEdge e.val
     (∀ p, w.onBackup = true → w.clk.restore = some p → Holds w p →
       ∃ t, exec (.referenceCauseOnBackup e c) s = .next t ∧ OnlyVexone s t ∧ t.vx.onBackup = true ∧
         t.vx.clk.restore = none ∧ t.vx.clk.cause = w.clk.cause ∧ t.vx.faults = w.faults ∧
         CompletesWith t.vx p 0x16 (refCode c)) ∧
     (s.vx.clk.ticking = false → ∃ t, exec (.pllLockTimeout c) s = .next t ∧ OnlyVexone s t ∧
       t.vx.clk.ticking = false ∧ t.vx.clk.cause = BitVec.ofNat 8 (refCode c) ∧ t.vx.latched (refCode c) 0 = true))

/-- 01 R34; 17 R578, R584: the owner's FRM_CTL write with every segment furled leaves both halves pending for the tick; the
same values again change nothing; with a live segment or a pending UNFURL the write is ignored whole and latches 0x0107; an
observer's is only counted (03 R90). -/
def Obligations.FrameRoleWriteWaitsOrIsRefused : Prop :=
  ∀ (s : State) (e : Edge) (m : Master) (d : Word), s.vx.alive = true →
    let w := s.vx.accessed e.val m
    (w.isOwner m = false → exec (.frmCtlWrite e m 0xF d) s = .next (withVx s (w.ignoreWrites 1))) ∧
    (w.isOwner m = true → d &&& 0x0000FF03 = d → fld d 1 0 ≠ 3 →
    (w.written 0x0020 = d → exec (.frmCtlWrite e m 0xF d) s = .next (withVx s w)) ∧
    (w.written 0x0020 ≠ d → w.unfurled = 0 → w.unfurlPending = 0 →
      ∃ t, exec (.frmCtlWrite e m 0xF d) s = .next t ∧ OnlyVexone s t ∧ t.vx.written 0x0020 = d ∧
        (t.vx.pairPend .frameRole).h1 = some (fld d 1 0 : Nat) ∧
        (t.vx.pairPend .frameRole).h2 = some (signed 8 (fld d 15 8)) ∧ t.vx.fr = w.fr ∧
        t.vx.faults = w.faults) ∧
    (w.written 0x0020 ≠ d → w.unfurled ≠ 0 ∨ w.unfurlPending ≠ 0 →
      ∃ t, exec (.frmCtlWrite e m 0xF d) s = .next t ∧ OnlyVexone s t ∧ (∀ a, t.vx.written a = w.written a) ∧
        t.vx.pairs = w.pairs ∧ t.vx.fr = w.fr ∧ t.vx.latched 0x0107 0 = true))

/-- 01 R35 to R37, R40, R52, Table 1-4: a pulse within 64 CCLK of the expected tick is judged by its width, once for each window. The
first valid pulse of an acquisition sets the tick phase by its error; the sixteenth good frame locks; the second missing pulse in a
row puts a locked follower into holdover with fault 0x0103; 64 frames of holdover unlock it, furl every segment and latch 0x0104. A
pulse outside every window changes nothing, and a master, or a solo device (R34), ignores FSYNC_I. -/
def Obligations.FollowersFollowAndMastersDoNot : Prop :=
  ∀ (s : State) (e : Edge) (width : Nat), s.vx.alive = true →
    let w := s.vx.atEdge e.val
    let err := w.fsyncErr w.clk.edge
    let win := w.windowAt w.clk.edge
    (w.fr.role = 2 → w.clk.ticking = true → -64 ≤ err → err ≤ 64 →
      (w.fr.st = .acquiring → w.fr.lastWin ≠ win → markerOf width ≠ none → w.fr.seen = false →
        ∃ t, exec (.fsyncPulse e width) s = .next t ∧ OnlyVexone s t ∧ t.vx.fr.st = .acquiring ∧ t.vx.fr.seen = true ∧
          t.vx.fr.jump = err ∧ t.vx.fr.err = err ∧ t.vx.segs = w.segs) ∧
      (w.fr.st = .acquiring → w.fr.lastWin ≠ win → markerOf width ≠ none → w.fr.seen = true → w.fr.good = 15 → -2 ≤ err → err ≤ 2 →
        ∃ t, exec (.fsyncPulse e width) s = .next t ∧ OnlyVexone s t ∧ t.vx.fr.st = .locked ∧ t.vx.fr.aligned = false ∧
          t.vx.segs = w.segs) ∧
      (w.fr.st = .locked → w.fr.lastWin ≠ win → markerOf width = none → w.fr.missing = 0 →
        ∃ t, exec (.fsyncPulse e width) s = .next t ∧ OnlyVexone s t ∧ t.vx.fr.st = .locked ∧ t.vx.fr.missing = 1)) ∧
    (err < -64 ∨ 64 < err → exec (.fsyncPulse e width) s = .next (withVx s w)) ∧
    (w.fr.role = 2 → w.clk.ticking = true → w.fr.st = .locked → w.fr.validWin ≠ win → w.fr.missWin ≠ win →
      ∃ t, exec (.fsyncPulseMissing e) s = .next t ∧ OnlyVexone s t ∧ t.vx.fr.missing = w.fr.missing + 1 ∧
        t.vx.segs = w.segs ∧ (w.fr.missing = 0 → t.vx.fr.st = .locked) ∧
        (1 ≤ w.fr.missing → t.vx.fr.st = .holdover ∧ t.vx.latched 0x0103 0 = true)) ∧
    (w.fr.role = 2 → w.fr.validWin = win ∨ w.fr.missWin = win → exec (.fsyncPulseMissing e) s = .next (withVx s w)) ∧
    (w.fr.role ≠ 2 → exec (.fsyncPulse e width) s = .next (withVx s w) ∧ exec (.fsyncPulseMissing e) s = .next (withVx s w)) ∧
    (s.vx.fr.st = .holdover → 64 ≤ s.vx.fr.hold →
      ∃ t, exec .holdoverExpiry s = .next t ∧ OnlyVexone s t ∧ t.vx.fr.st = .unlocked ∧ AllFurlDue t.vx ∧
        t.vx.unfurlPending = 0 ∧ t.vx.latched 0x0104 0 = true) ∧
    (s.vx.fr.st ≠ .holdover → exec .holdoverExpiry s = .next s)

/-- 05 Table 5-10, R184, R192; 01 R31, R51; 16 R559: COMMIT_PAIR commits the pair it names and tells how many of its
halves were written; FAULT_CLEAR with nothing refused leaves the clearing of every latched named instance for the tick and
tells their number, and with a refused code tells the lowest of them while the rest is still cleared; QUIET, RESUME and
FRAME_RESYNC wait for the tick. 05 Table 5-9: DIAG_START of a declared unit waits for its activity; one that meets none in 64
frames completes with ST_NO_ACTIVITY and waits no more. -/
def Obligations.DeviceControlOperationsComplete : Prop :=
  (∀ (s : State) (p : Place) (i : Nat) (o : Op) (e : Entry), Begins s.vx p i o e → o.reservedBad = false →
    let b := begun s.vx p i o e
    (∀ id, o.opcode = 0x1A06 → pairNamed (o.a 0 7 0) (o.a 0 15 8) = some id →
      exec (.commitPair p i) s =
        .next (withVx s ((b.pairCommit id).finish o e 0x00 (bit (b.pairPend id).h1.isSome + bit (b.pairPend id).h2.isSome)))) ∧
    (o.opcode = 0x1A01 → namedCodes (o.a 0 15 0) ≠ [] →
      let plan := b.clearPlan (o.a 0 15 0)
      (plan.1 = [] → exec (.faultClear p i) s = .next (withVx s (leavesDue s.vx p i o e (.faultClear plan.2)
        ((plan.2.map fun x => countOnes x.2).sum)))) ∧
      ∀ r rest, plan.1 = r :: rest →
        exec (.faultClear p i) s = .next (withVx s ((b.pushDue p (.faultClear plan.2)).finish o e 0x13 r))) ∧
    (o.opcode = 0x1A02 → b.active.isSome = true →
      exec (.quiet p i) s = .next (withVx s (leavesDue s.vx p i o e .quiet 0))) ∧
    (o.opcode = 0x1A03 → b.active.isSome = true → b.eg.active = false → b.anyLatched 0x0301 = false →
      exec (.resume p i) s = .next (withVx s (leavesDue s.vx p i o e .resume 0))) ∧
    (o.opcode = 0x1A05 → b.onBackup = false → b.fr.st = .unlocked →
      exec (.frameResync p i) s = .next (withVx s (leavesDue s.vx p i o e .frameResync 0))) ∧
    (o.opcode = 0x1901 → b.active.isSome = true →
      (o.a 0 7 0 = 1 ∧ o.target < 16 ∧ b.declSegs.getLsbD o.target = true ∨
       o.a 0 7 0 = 2 ∧ o.target = 0 ∧ b.declRails.getLsbD 2 = true ∨
       o.a 0 7 0 = 3 ∧ o.target < 4 ∧ b.declFans.getLsbD o.target = true) →
      exec (.diagStart p i) s =
        .next (withVx s { b with diags := b.diags ++ [⟨p, o.a 0 7 0, o.target, b.clk.ticks⟩] }))) ∧
  ∀ (s : State) (p : Place), ∀ d ∈ s.vx.diags, s.vx.alive = true → d.place = p → d.ticks + 64 ≤ s.vx.clk.ticks → Holds s.vx p →
    ∃ t, exec (.diagNoActivity p) s = .next t ∧ OnlyVexone s t ∧ (∀ x ∈ t.vx.diags, x.place ≠ p) ∧
      (∀ x ∈ s.vx.diags, x.place ≠ p → x ∈ t.vx.diags) ∧ CompletesWith t.vx p 0x50 0

/-- 01 R22 to R27, Table 1-6; 05 R168; 13 R462; 02 R78, R79: TICK opens the next frame at its edge 0 and brings the settings of
the frame before into force, a reef level, a rail start and a quiet selection among them, and latches a written field of the
reservoir register that is in its range, refusing another with 0x0A07; PLL_LOCK opens frame 0 on the reference; edge 200,000
reads the template of the next frame from the sequence. -/
def Obligations.TickBringsSettingsIntoForce : Prop :=
  ∀ (s : State) (l : LaneId) (k : Fin 4) (r : RailId) (n : Nat) (im : Image) (d : Due),
    let w := s.vx.atEdge (frameLen - 1)
    (Ticks s.vx → ∃ t, exec .tick s = .next t ∧ t.pending = s.pending ∧ t.pri = s.pri ∧ t.lav = s.lav ∧
      t.vx.clk.frame = w.nextFrame ∧ t.vx.clk.edge = 0 ∧ t.vx.clk.ticks = w.clk.ticks + 1 ∧ t.vx.clk.ticking = w.clk.ticking ∧
      t.vx.clk.backup = w.clk.backup ∧ t.vx.img.active = w.img.active ∧
      (w.fr.alignLow6 = false → w.fr.alignLow12 = false → t.vx.clk.frame = w.clk.frame + 1) ∧
      (w.due = [d] → d.set = .reef l k → t.vx.lanes[l].level = k ∧ t.vx.due = []) ∧
      (w.due = [d] → d.set = .railOn r n → (w.rail r).st = .off →
        (t.vx.rail r).st = .delay ∧ (t.vx.rail r).delayTo = t.vx.clk.t0 + 5424 * n) ∧
      (w.due = [d] → d.set = .quiet → w.active.isSome = true → w.img.swap = none → w.eg.active = false →
        w.eg.judged = 0 → t.vx.sch.quietSel = true ∧ t.vx.sch.run = .quiet) ∧
      (w.due = [] → 0x08D0 ∈ w.regs.fresh →
        let f := fld (w.written 0x08D0) 23 16
        (80 ≤ f → f ≤ 171 → fld (t.vx.force 0x08D0) 23 16 = f) ∧
        (f < 80 ∨ 171 < f → fld (t.vx.force 0x08D0) 23 16 = fld (w.force 0x08D0) 23 16 ∧ t.vx.latched 0x0A07 0 = true))) ∧
    (¬ Ticks s.vx → s.vx.pw.stage.resetFrom = none → exec .tick s = .next s) ∧
    (s.vx.alive = true → s.vx.clk.ticking = false → ∃ t, exec .pllLock s = .next t ∧ t.pending = s.pending ∧ t.pri = s.pri ∧
      t.lav = s.lav ∧ t.vx.clk.frame = 0 ∧ t.vx.clk.edge = 0 ∧ t.vx.clk.ticking = true ∧ t.vx.onBackup = false ∧
      t.vx.clk.lock = true) ∧
    (let u := s.vx.atEdge 199999
     Ticks s.vx → s.vx.clk.edge ≤ 200000 → u.img.swap = none → u.active = some im →
      ∃ t, exec .templateIndexRead s = .next t ∧ OnlyVexone s t ∧ t.vx.clk.edge = 200000 ∧
        t.vx.sch.next = im.seq.getD ((u.clk.frame + 1).toNat % im.seq.length) 0 ∧ t.vx.sch.run = u.sch.run ∧
        t.vx.sch.bind.map (·.handle) = u.sch.bind.map (·.handle) ∧ t.vx.fb = u.fb ∧ SameDrives u t.vx)

/-- 02 R74; 17 R591; 16 R561: the owner's START on M0 or M1, with a length in range and no load, proof or swap under way,
empties the standby store, clears the latched codes of the last proof and opens a load of the written address and length; one of
M2's, or one too long, is refused with code 0x0218; one while a load, a proof or a swap is under way, or one with START zero,
changes nothing (that an aborted load not yet posted counts as under way, and that the ignored cases come first, is the model's
choice, log entry 108); an observer's only counts in IGN_WR. 02 R74; 04 R134: image data are laid at their offset of the standby
store and counted, and what is missing of their read stays outstanding; a read that fails aborts a load whose fetch has not
ended. -/
def Obligations.ImageLoadOpensAndFills : Prop :=
  (∀ (s : State) (e : Edge) (m : Master) (d : Word), s.vx.alive = true →
     let w := s.vx.accessed e.val m
     (w.isOwner m = false → exec (.imageLoadStart e m d) s = .next (withVx s (w.ignoreWrites 1))) ∧
     (w.isOwner m = true → (fld d 0 0 = 0 ∨ w.img.load ≠ none ∨ w.img.abort = true ∨ w.img.proof = .fetching ∨
         w.img.proof = .checking ∨ w.img.swap ≠ none) →
       exec (.imageLoadStart e m d) s = .next (withVx s w)) ∧
     (w.isOwner m = true → fld d 0 0 = 1 → w.img.load = none → w.img.abort = false → w.img.proof ≠ .fetching →
       w.img.proof ≠ .checking → w.img.swap = none →
       (m ≠ .m2 → fld (w.written 0x6008) 19 0 ≤ 557056 →
         ∃ t ld, exec (.imageLoadStart e m d) s = .next t ∧ OnlyVexone s t ∧ t.vx.img.load = some ld ∧ ld.m = m ∧
           ld.addr = (w.written 0x6000).toNat + (w.written 0x6004).toNat * 2 ^ 32 ∧
           ld.len = fld (w.written 0x6008) 19 0 ∧ ld.asked = 0 ∧ ld.start = w.clk.ticks ∧
           t.vx.img.standby = { raw := [], image := none } ∧ t.vx.img.active = w.img.active ∧ t.vx.img.fetched = 0 ∧
           t.vx.sch = w.sch ∧ (∀ f ∈ t.vx.faults, isProofCode f.code = true → f.mask = 0)) ∧
       (m = .m2 ∨ 557056 < fld (w.written 0x6008) 19 0 →
         ∃ t, exec (.imageLoadStart e m d) s = .next t ∧ OnlyVexone s t ∧ t.vx.img.proof = .failed ∧
           t.vx.img.code = 0x0218 ∧ t.vx.latched 0x0218 0 = true ∧ t.vx.img.standby = w.img.standby ∧
           t.vx.img.load = none))) ∧
  (∀ (s : State) (e : Edge) (rid ofs len : Nat) (bytes : List Byte) (r : ReadReq) (ld : Load), s.vx.alive = true →
     let w := s.vx.atEdge e.val
     w.reads.find? (fun x => x.rid == rid) = some r → r.kind = .image ofs len → w.img.load = some ld →
     (∃ t, exec (.imageLoadData e rid bytes) s = .next t ∧ OnlyVexone s t ∧
       t.vx.img.standby.raw = splice w.img.standby.raw ofs (bytes.take len) ∧
       t.vx.img.fetched = w.img.fetched + min len bytes.length ∧
       (bytes.length < len → ∃ x ∈ t.vx.reads, x.rid = rid ∧ x.kind = .image (ofs + bytes.length) (len - bytes.length)) ∧
       (len ≤ bytes.length → ∀ x ∈ t.vx.reads, x.rid ≠ rid) ∧
       t.vx.img.active = w.img.active ∧ t.vx.faults = w.faults) ∧
     (w.img.proof ≠ .checking → ∃ t, exec (.imageLoadReadError e rid) s = .next t ∧ OnlyVexone s t ∧
       t.vx.img.load = none ∧ t.vx.img.abort = true ∧ t.vx.img.standby = w.img.standby ∧
       t.vx.img.active = w.img.active))

/-- 02 R70 to R73: at the tick that ends the count of frames, one more for each frame of the fetch that fell short, the proof is
posted: passed, with the standby store holding the image its bytes spell, or failed, with the code of the first failing invariant
in PROOF_STAT and latched and the standby store invalid. Either way the load is over and the active store untouched. -/
def Obligations.ProofIsPostedAtItsTick : Prop :=
  ∀ (s : State) (ld : Load), Ticks s.vx → s.vx.clk.edge = 0 → s.vx.img.load = some ld → s.vx.img.proof = .checking →
    (s.vx.clk.ticks < ld.start + (ceilDiv ld.len s.vx.loadQuota + checkFrames s.vx.img.standby.raw + ld.short) + 1 →
      exec .proofResult s = .next s) ∧
    (ld.start + (ceilDiv ld.len s.vx.loadQuota + checkFrames s.vx.img.standby.raw + ld.short) + 1 ≤ s.vx.clk.ticks →
    ∃ t, exec .proofResult s = .next t ∧ OnlyVexone s t ∧ t.vx.img.load = none ∧ t.vx.img.active = s.vx.img.active ∧
      t.vx.sch = s.vx.sch ∧
      (proofReject s.vx.img.standby.raw ld.len s.otp = none →
        t.vx.img.proof = .passed ∧ t.vx.img.code = 0 ∧ t.vx.img.standby.raw = s.vx.img.standby.raw ∧
        t.vx.img.standby.image = some (imageOf s.vx.img.standby.raw)) ∧
      (∀ r, proofReject s.vx.img.standby.raw ld.len s.otp = some r →
        t.vx.img.proof = .failed ∧ t.vx.img.code = r.code ∧ t.vx.img.standby = { raw := [], image := none } ∧
        t.vx.latched r.code 0 = true))

/-- 02 R76, R77; 05 Table 5-9: IMAGE_SWAP waits for the next bench (the one after, from edge 200,000 of a bench's last frame);
a refused one completes with ST_IMAGE_REFUSED and its DETAIL; IMAGE_SWAP_ACTIVATION at the tick of that bench exchanges the
stores and completes the operation with ST_OK and the bench's low bits. -/
def Obligations.SwapWaitsForItsBenchAndExchangesTheStores : Prop :=
  ∀ (s : State) (p : Place),
    (∀ (i : Nat) (o : Op) (e : Entry), Begins s.vx p i o e → o.opcode = 0x1801 → o.cls = .c → o.reservedBad = false →
      let b := begun s.vx p i o e
      (∀ d, b.swapRefusal = some d →
        exec (.imageSwap p i) s = .next (withVx s (leavesFailed s.vx p i o e 0x40 d))) ∧
      (b.swapRefusal = none →
        let ahead := if b.clk.frame.toNat % 64 = 63 ∧ 200000 ≤ b.clk.edge then 2 else 1
        let swap : Swap := ⟨p, (benchOf b.clk.frame + ahead) % 2 ^ 26⟩
        exec (.imageSwap p i) s = .next (withVx s { b with img := { b.img with swap := some swap } }))) ∧
    (∀ w : Swap, Ticks s.vx → s.vx.clk.edge = 0 → s.vx.img.swap = some w → w.place = p → s.vx.swapDue = true →
      s.vx.img.standby.image.isSome = true → Holds s.vx p →
      ∃ t, exec .imageSwapActivation s = .next t ∧ OnlyVexone s t ∧ t.vx.img.active = s.vx.img.standby ∧
        t.vx.img.standby = s.vx.img.active ∧ t.vx.img.swap = none ∧ t.vx.img.proof = s.vx.img.proof ∧
        CompletesWith t.vx p 0x00 (w.bench % 65536)) ∧
    (s.vx.swapDue = false → exec .imageSwapActivation s = .next s)

/-- 05 R181, R182: KEY_FUSE on an empty slot with its magic word waits for the read-back; a read-back equal to the hash fuses
the slot and no other, and completes with ST_OK; another revokes it, latches 0x0219 for it and completes with ST_TEST_FAIL;
KEY_REVOKE of a fused slot that did not sign the active image waits for the tick. -/
def Obligations.KeySlotsAreFusedAndRevoked : Prop :=
  ∀ (s : State) (p : Place),
    (∀ (i : Nat) (o : Op) (e : Entry), Begins s.vx p i o e → o.reservedBad = false → o.arg 8 = 0x45535546 →
      let b := begun s.vx p i o e
      (o.opcode = 0x1802 → s.otp.slots[o.slot].st = .empty → (∀ f ∈ b.img.fusing, f.slot ≠ o.slot) →
        exec (.keyFuse p i) s = .next (withVx s { b with
          img := { b.img with fusing := b.img.fusing ++ [⟨p, o.slot, ofWords ((List.range 8).map o.arg)⟩] } })) ∧
      (o.opcode = 0x1803 → s.otp.slots[o.slot].st = .fused → (∀ im, b.active = some im → im.keySlot ≠ o.slot.val) →
        exec (.keyRevoke p i) s = .next (withVx s (leavesDue s.vx p i o e (.keyRevoke o.slot) 0)))) ∧
    (∀ (f : Fusing) (rest : List Fusing) (h : Vector Byte 32), s.vx.alive = true → s.vx.img.fusing = f :: rest → f.place = p →
      Holds s.vx p → s.otp.slots[f.slot].st = .empty → allZero h.toList = false →
      ∃ t, exec (.keyFuseReadback h) s = .next t ∧ t.pri = s.pri ∧ t.lav = s.lav ∧ t.pending = s.pending ∧
        t.vx.img.fusing = rest ∧ (∀ k : Fin 4, k ≠ f.slot → t.otp.slots[k] = s.otp.slots[k]) ∧
        (h.toList = f.hash → t.otp.slots[f.slot] = { st := .fused, hash := h } ∧ CompletesWith t.vx p 0x00 0) ∧
        (h.toList ≠ f.hash → t.otp.slots[f.slot].st = .revoked ∧ t.vx.latched 0x0219 f.slot.val = true ∧
          CompletesWith t.vx p 0x51 0x0219))

/-- 02 R68; 05 R181, R182: one-time cells never go back. Over every step, whatever the command, a revoked slot stays revoked,
a fused one stays fused or becomes revoked, and a slot that is not empty keeps its hash. -/
def Obligations.KeySlotsNeverGoBack : Prop :=
  ∀ (s t : State) (k : Fin 4), step s = .next t → s.otp.slots[k].st ≠ .empty →
    t.otp.slots[k].hash = s.otp.slots[k].hash ∧
    (s.otp.slots[k].st = .revoked → t.otp.slots[k].st = .revoked) ∧
    (s.otp.slots[k].st = .fused → t.otp.slots[k].st = .fused ∨ t.otp.slots[k].st = .revoked)

/-- 03 Table 3-5, R94, R109, R110: CLAIM takes a free Halyard, stores TAG and arms the watchdog with EFF; it is refused with RESULT
2, and with fault 0x0303 while one master owns. OFFER, WITHDRAW, DECLINE and ACCEPT move it between owned and offered; an
ACCEPT only waits for the tick, and not with the sequencer active. TAKEOVER ends a lapse, and a RELEASE of a quiescent device
frees it. No command moves rails, motors or segments. 03 Table 3-4: a HAL_CTRL write of a command that Table 3-4 does not name
is refused with RESULT 2 and changes nothing but the writer's HAL_RES; so is a WITHDRAW, ACCEPT or DECLINE with no offer in a
lapsed or free Halyard. -/
def Obligations.HalyardCommandsMoveItsState : Prop :=
  ∀ (s : State) (e : Edge) (m n : Master) (tag : BitVec 16) (cmd : BitVec 8) (k : Nat), s.vx.alive = true →
     let w := s.vx.accessed e.val m
     let u := s.vx.accessed e.val n
     let keeps := fun (v : Vexone) (t : State) => OnlyVexone s t ∧ t.vx.segs = v.segs ∧ t.vx.motors = v.motors ∧ t.vx.fb = v.fb ∧
       t.vx.ax = v.ax ∧ t.vx.res = v.res ∧ t.vx.fans = v.fans
     (w.hal.st = .free → ∃ t, exec (.claim e m tag) s = .next t ∧ keeps w t ∧ t.vx.hal.st = .owned m ∧ t.vx.hal.tag = tag ∧
       t.vx.hal.count = w.hal.effFor m ∧ t.vx.hal.res[m.idx].result = 0 ∧ t.vx.hal.res[m.idx].lastCmd = 1) ∧
     (w.hal.owner ≠ none → ∃ t, exec (.claim e m tag) s = .next t ∧ keeps w t ∧ t.vx.hal.st = w.hal.st ∧ t.vx.hal.tag = w.hal.tag ∧
       t.vx.hal.res[m.idx].result = 2 ∧ t.vx.latched 0x0303 m.idx.val = true) ∧
     (w.hal.st = .owned m → w.quiescent = true → ∃ t, exec (.release e m) s = .next t ∧ keeps w t ∧ t.vx.hal.st = .free ∧
       t.vx.hal.count = 0 ∧ t.vx.hal.res[m.idx].result = 0) ∧
     (w.hal.st = .owned m → w.quiescent = false → ∃ t, exec (.release e m) s = .next t ∧ keeps w t ∧ t.vx.hal.st = .owned m ∧
       t.vx.hal.count = w.hal.count ∧ t.vx.hal.res[m.idx].result = 5 ∧ t.vx.latched 0x0308 m.idx.val = true) ∧
     (w.hal.st = .owned m → n ≠ m → w.eg.active = false → ∃ t, exec (.offer e m (BitVec.ofNat 2 n.idx.val)) s = .next t ∧
       keeps w t ∧ t.vx.hal.st = .offered m n 64 ∧ t.vx.hal.res[m.idx].result = 1 ∧ t.vx.hal.count = w.hal.count) ∧
     (w.hal.st = .owned m → w.eg.active = true → ∃ t, exec (.offer e m (BitVec.ofNat 2 n.idx.val)) s = .next t ∧
       keeps w t ∧ t.vx.hal.st = .owned m ∧ t.vx.hal.res[m.idx].result = 3 ∧ t.vx.latched 0x0305 m.idx.val = true) ∧
     (w.hal.st = .offered m n k → ∃ t, exec (.withdraw e m) s = .next t ∧ keeps w t ∧ t.vx.hal.st = .owned m ∧
       t.vx.hal.accept = none ∧ t.vx.hal.count = w.hal.count ∧ t.vx.hal.res[m.idx].result = 0) ∧
     (u.hal.st = .offered m n k → ∃ t, exec (.decline e n) s = .next t ∧ keeps u t ∧ t.vx.hal.st = .owned m ∧
       t.vx.hal.accept = none ∧ t.vx.hal.count = u.hal.count ∧ t.vx.hal.res[n.idx].result = 0) ∧
     (u.hal.st = .offered m n k → u.eg.active = false → u.hal.count ≠ 0 → ∃ t, exec (.accept e n tag) s = .next t ∧ keeps u t ∧
       t.vx.hal.st = u.hal.st ∧ t.vx.hal.accept = some tag ∧ t.vx.hal.res[n.idx].result = 1 ∧ t.vx.hal.count = u.hal.count) ∧
     (u.hal.st = .offered m n k → u.hal.count = 0 → exec (.accept e n tag) s = .next (withVx s (u.halResult n 5 2))) ∧
     (w.hal.st = .lapsed n → ∃ t, exec (.takeover e m tag) s = .next t ∧ keeps w t ∧ t.vx.hal.st = .owned m ∧ t.vx.hal.tag = tag ∧
       t.vx.hal.count = w.hal.effFor m ∧ t.vx.pairs = [] ∧ t.vx.sch.quietSel = w.sch.quietSel) ∧
     (w.hal.st = .owned n → ∃ t, exec (.takeover e m tag) s = .next t ∧ keeps w t ∧ t.vx.hal.st = w.hal.st ∧
       t.vx.hal.tag = w.hal.tag ∧ t.vx.hal.res[m.idx].result = 4 ∧ t.vx.latched 0x0307 m.idx.val = true) ∧
     (cmd = 0 ∨ 7 < cmd.toNat →
       exec (.halCmdUndefined e m cmd) s = .next (withVx s (w.halResult m cmd.toNat 2))) ∧
     (w.hal.owner = none →
       exec (.withdraw e m) s = .next (withVx s (w.halResult m 4 2)) ∧
       exec (.accept e m tag) s = .next (withVx s (w.halResult m 5 2)) ∧
       exec (.decline e m) s = .next (withVx s (w.halResult m 6 2)) ∧
       exec (.release e m) s = .next (withVx s (w.halResult m 2 2)))

/-- 03 R108 (and R102, R90): a kick of the owner that completes with the counter at zero is late: the expiry stands, for no
ownership and no counter changes, 0x0302 is latched and the event marked late is recorded; a kick at any earlier edge reloads
the counter with EFF. The lost owner's kick after the expiry is late too, another observer's is ignored. -/
def Obligations.KickReloadsUnlessLate : Prop :=
  ∀ (s : State) (e : Edge) (m : Master), s.vx.alive = true →
    let w := s.vx.accessed e.val m
    (w.isOwner m = true ∧ w.hal.count = 0 ∨ w.hal.st = .lapsed m →
      ∃ t, exec (.halKick e m) s = .next t ∧ OnlyVexone s t ∧ t.vx = w.lateKick m ∧
        t.vx.hal = w.hal ∧ t.vx.latched 0x0302 0 = true ∧ t.vx.fwd = w.fwd) ∧
    (w.isOwner m = true → w.hal.count ≠ 0 → ∃ t, exec (.halKick e m) s = .next t ∧ OnlyVexone s t ∧
      t.vx.hal = { w.hal with count := max w.hal.limit (w.hal.minFor m) } ∧ t.vx.faults = w.faults) ∧
    (w.hal.st ≠ .lapsed m → w.isOwner m = false → exec (.halKick e m) s = .next (withVx s w))

/-- 03 R98, R99, R90; 00 R9: the owner's OWD_LIMIT write at or above MIN, and at least 2, is stored; one below leaves LIMIT, gives
RESULT 6 and latches 0x0304; one that enables no byte of LIMIT changes nothing; an observer's of a Halyard that is not free is
ignored and counted. MIN follows the link budget of the owner's port: 27 frames at the reset budgets and 2 for M2. -/
def Obligations.WatchdogLimitIsHeldAboveMinimum : Prop :=
  ∀ (s : State) (e : Edge) (m : Master) (d : Word), s.vx.alive = true →
    let w := s.vx.accessed e.val m
    (w.isOwner m = true → 2 ≤ fld d 15 0 → w.hal.minFor m ≤ fld d 15 0 →
      exec (.owdLimitWrite e m 0xF d) s = .next (withVx s { w with hal := { w.hal with limit := fld d 15 0 } })) ∧
    (w.isOwner m = true → fld d 15 0 < w.hal.minFor m → ∃ t, exec (.owdLimitWrite e m 0xF d) s = .next t ∧
      OnlyVexone s t ∧ t.vx.hal.limit = w.hal.limit ∧ t.vx.hal.st = w.hal.st ∧ t.vx.hal.res[m.idx].result = 6 ∧
      t.vx.latched 0x0304 m.idx.val = true) ∧
    (∀ be : BitVec 4, w.isOwner m = true → be.extractLsb' 0 2 = 0 → exec (.owdLimitWrite e m be d) s = .next (withVx s w)) ∧
    (w.isOwner m = false → w.hal.st ≠ .free →
      exec (.owdLimitWrite e m 0xF d) s = .next (withVx s (w.ignoreWrites 1))) ∧
    (w.hal.budgetA = { recovMs := 24, replayUs := 40 } → w.hal.minFor .m0 = 27) ∧ w.hal.minFor .m2 = 2

/-- 03 Table 3-6, R103 to R105, R113: at the tick that empties the owner watchdog the Halyard lapses, pending pair halves go, the
quiet template is selected for the next frame, a pending RESUME and a pending UNFURL are void and no admitted operation of the
lost owner still waits but its queries as an observer; the fans follow 16 CCLK on, 0x0301 latches after 32, every segment furls
from edge 5,424 and the motors brake-hold from 5,440; rails, charger and the arming of egress stay. An offer left for 64 frames is
void (Table 3-5): the offering master stays owner and 0x0306 latches. -/
def Obligations.OwnerLossRunsItsSequence : Prop :=
  (∀ (s : State) (m n : Master), s.vx.alive = true →
    (s.vx.hal.owner = some m → s.vx.hal.count = 0 → ∃ t, exec .ownerWatchdogExpiry s = .next t ∧ OnlyVexone s t ∧
      t.vx.hal.st = .lapsed m ∧ t.vx.hal.accept = none ∧ t.vx.pairs = [] ∧ t.vx.sch.quietSel = true ∧ t.vx.unfurlPending = 0 ∧
      (∀ d ∈ t.vx.due, d.set ≠ .resume) ∧ (∀ o ∈ t.vx.ops, o.m = m → o.pool ≠ .obs → o.phase ≠ .admitted) ∧
      t.vx.segs = s.vx.segs ∧ t.vx.fb = s.vx.fb ∧ t.vx.ax = s.vx.ax ∧ t.vx.res = s.vx.res ∧ t.vx.eg.armed = s.vx.eg.armed ∧
      t.vx.clk = s.vx.clk ∧ t.vx.sch.run = s.vx.sch.run ∧ Leaves t.vx (s.vx.now + 16) .lossFans ∧
      Leaves t.vx (s.vx.now + 32) .lossFault ∧ Leaves t.vx (s.vx.now + 5424) .lossFurl ∧ Leaves t.vx (s.vx.now + 5440) .lossBrake) ∧
    (s.vx.hal.owner = none ∨ s.vx.hal.count ≠ 0 → exec .ownerWatchdogExpiry s = .next s) ∧
    (s.vx.hal.st = .offered m n 0 → ∃ t, exec .offerExpiry s = .next t ∧ OnlyVexone s t ∧ t.vx.hal.st = .owned m ∧
      t.vx.hal.accept = none ∧ t.vx.hal.count = s.vx.hal.count ∧ t.vx.latched 0x0306 m.idx.val = true ∧ t.vx.segs = s.vx.segs ∧
      t.vx.pairs = s.vx.pairs) ∧
    (∀ k, s.vx.hal.st = .offered m n (k + 1) → exec .offerExpiry s = .next s)) ∧
  ∀ v : Vexone, (v.runLater .lossFault).latched 0x0301 0 = true ∧ AllFurlDue (v.runLater .lossFurl) ∧
    (∀ n : MotorId, v.egLane n = none → v.motorUndeclared n.val = false → v.motors[n].st = .idle → v.due = [] → v.fast n = false →
      (v.runLater .lossBrake).motors[n].st = .hold)

/-- 04 R118, R129, R151: a doorbell write that enables a byte of the index of an enabled ring is recorded, the byte merged
into the value recorded before or into HOST_IDX, and only recorded; one that enables neither byte changes nothing; one into a
disabled ring is ignored with fault 0x0408. 04 R129 to R131: the window that starts after a doorbell value was recorded serves
it: a valid value becomes HOST_IDX, an invalid one is discarded and HOST_IDX keeps its value; a value recorded at the start edge
or later waits. No other die moves. -/
def Obligations.DoorbellsAreRecordedThenServed : Prop :=
  (∀ (s : State) (e : Edge) (m : Master) (cl : Cls) (h : HeadRing) (be : BitVec 4) (d : Word), s.vx.alive = true →
     let w := s.vx.accessed e.val m
     let rings := fun (r : Fin 10) (out : Host.Outcome State Fault Refusal) =>
       (be.extractLsb' 0 2 = 0 → out = .next (withVx s w)) ∧
       (be.extractLsb' 0 2 ≠ 0 → w.ringOn m.idx r = true → ∃ t, out = .next t ∧ OnlyVexone s t ∧
         (t.vx.ring m r).bell = some
           ((mergeBytes (((w.ring m r).bell.getD (w.ring m r).host).zeroExtend 32) d be).extractLsb' 0 16) ∧
         (t.vx.ring m r).bellAt = w.now ∧ (t.vx.ring m r).host = (w.ring m r).host ∧ (t.vx.ring m r).dev = (w.ring m r).dev ∧
         (∀ (m' : Master) (r' : Fin 10), (m', r') ≠ (m, r) → t.vx.ring m' r' = w.ring m' r') ∧
         t.vx.faults = w.faults ∧ t.vx.ops = w.ops ∧ t.vx.reads = w.reads) ∧
       (be.extractLsb' 0 2 ≠ 0 → w.ringOn m.idx r = false → ∃ t, out = .next t ∧ OnlyVexone s t ∧
         t.vx.latched 0x0408 m.idx.val = true ∧ (t.vx.ring m r).bell = (w.ring m r).bell ∧
         (t.vx.ring m r).host = (w.ring m r).host ∧ t.vx.ops = w.ops ∧ t.vx.reads = w.reads)
     rings (sqOf cl) (exec (.sqTailDoorbell e m cl be d) s) ∧ rings (headRing h) (exec (.headDoorbell e m h be d) s)) ∧
  (∀ (s : State) (i : Nat) (e : Entry) (m : Master) (r : Fin 10) (b : BitVec 16), Activity s.vx i 0x0501 e →
     let w := s.vx.atEdge e.start
     (w.ring m r).bell = some b →
     ∃ t, exec (.dmaWindow i) s = .next t ∧ OnlyVexone s t ∧
       (w.clk.t0 + e.start ≤ (w.ring m r).bellAt →
         (t.vx.ring m r).bell = some b ∧ (t.vx.ring m r).host = (w.ring m r).host) ∧
       ((w.ring m r).bellAt < w.clk.t0 + e.start → (t.vx.ring m r).bell = none ∧
         (t.vx.ring m r).host =
           if bellValid (decide (r.val < 4)) b (w.ring m r).dev (w.ring m r).host (w.ringSize m.idx r) then b
           else (w.ring m r).host))

/-- 04 R131: a window of D CCLK issues at most floor(D / 64) - 1 requests: no more read requests and posted writes than that
join what the block has put on its ports by its start. -/
def Obligations.WindowKeepsItsRequestBudget : Prop :=
  ∀ (s : State) (i : Nat) (e : Entry), Activity s.vx i 0x0501 e → ∃ t, exec (.dmaWindow i) s = .next t ∧
    let requests := fun (v : Vexone) => (v.out.filter fun x => match x with | .post .. => true | .read .. => true | _ => false).length
    requests t.vx ≤ requests (s.vx.atEdge e.start) + (e.dur / 64 - 1)

/-- 04 Table 4-8, R133, R136; 15 R522: the data of a one-descriptor request of an enabled ring that is not halted, the oldest of its
ring, moves DEV_IDX over the descriptor, whose decode ends 32 CCLK after it and after the decode before it; a part of it waits for
the rest. Where the decode ends the descriptor makes one operation: admitted where every check passes, else complete with the
status of the first check that fails, in the table's order, by the role of its master then (03 R95). Data of a halted ring are
discarded without a fault. -/
def Obligations.DescriptorsAreJudgedInOrder : Prop :=
  (∀ (s : State) (e : Edge) (rid gen : Nat) (m : Master) (cl : Cls) (pool : Pool) (r : ReadReq) (ws : List Word), s.vx.alive = true →
    let w := s.vx.atEdge e.val
    w.reads.find? (fun x => x.rid == rid) = some r → r.kind = .descr m cl 1 [pool] gen → r.m = m → m ≠ .m2 → r.got = [] →
    ((w.ring m (sqOf cl)).halted = true → ∃ t, exec (.descriptorData e rid ws) s = .next t ∧
      OnlyVexone s t ∧ t.vx.ops = w.ops ∧ t.vx.ms = w.ms ∧ t.vx.faults = w.faults ∧
      t.vx.reads = w.reads.filter fun x => x.rid != rid) ∧
    (w.staleFetch m cl gen = false → w.reads.find? (fun x => x.ofRing m cl gen) = some r → (w.ring m (sqOf cl)).chain = [] →
      (ws.length = 16 →
        let endAt := max w.now (w.ring m (sqOf cl)).decEnd + 32
        ∃ t, exec (.descriptorData e rid ws) s = .next t ∧ OnlyVexone s t ∧ t.vx.ops = w.ops ∧
        (t.vx.ring m (sqOf cl)).dev = (w.ring m (sqOf cl)).dev + 1 ∧
        (t.vx.ring m (sqOf cl)).chain = [⟨rid, pool, ws, endAt⟩] ∧ Leaves t.vx endAt (.decode m cl) ∧
        t.vx.faults = w.faults ∧ (∀ x ∈ t.vx.reads, x.rid ≠ rid)) ∧
      (ws.length < 16 → ∃ t, exec (.descriptorData e rid ws) s = .next t ∧ OnlyVexone s t ∧ t.vx.ops = w.ops ∧ t.vx.ms = w.ms ∧
        (∃ x ∈ t.vx.reads, x.rid = rid ∧ x.kind = r.kind ∧ x.got = ws)))) ∧
  ∀ (v : Vexone) (m : Master) (cl : Cls) (d : Decoding) (rest : List Decoding),
    (v.ring m (sqOf cl)).chain = d :: rest → d.endAt ≤ v.now → v.freePlace.isSome = true →
    let ws := d.words
    ∃ o, (v.endDecode m cl).ops = v.ops ++ [o] ∧ v.opAt o.place = none ∧ o.m = m ∧ o.cls = cl ∧ o.pool = d.pool ∧ o.words = ws ∧
      o.admAt = v.now + 8 ∧
      let bad := descReserved ws ≠ 0 ∨ 4096 < descBufLen ws ∨ (descBufLen ws = 0 ∧ descBufAddr ws ≠ 0) ∨
        (descBufLen ws ≠ 0 ∧ (descBufAddr ws = 0 ∨ descBufAddr ws % 4 ≠ 0))
      let fails := fun (st : BitVec 8) => ∃ c, o.phase = .complete c ∧ c.status = st ∧ c.detail = 0
      (bad → fails 0xF0) ∧
      (¬ bad → opInfo (descOpcode ws) = none → fails 0xF1) ∧
      (∀ x, ¬ bad → opInfo (descOpcode ws) = some x →
        (cl ∉ x.classes → fails 0xF2) ∧
        (cl ∈ x.classes → v.isOwner m = false → isQuery (descOpcode ws) = false → fails 0xF3) ∧
        (cl ∈ x.classes → (v.isOwner m = true ∨ isQuery (descOpcode ws) = true) →
          (m = .m2 → descBufLen ws ≠ 0 → fails 0xF5) ∧
          ((m ≠ .m2 ∨ descBufLen ws = 0) → o.phase = .admitted)))

/-- 04 R133, R156, R160; 15 R523; 05 R165: a failed descriptor fetch halts its ring with fault 0x0404 and leaves DEV_IDX; data of a
buffer join it, the last of a read ending it and a part leaving the rest outstanding; a failed buffer read completes its operation
with ST_BUF_FAULT and latches 0x0405; an operation of class C or B that no cleat took in its 64 frames completes with ST_NO_CLEAT, one
of class P that never met its context in the store with ST_NO_CONTEXT; one bound to a P cleat of the new frame waits on. -/
def Obligations.ReadsAndWaitsEnd : Prop :=
  (∀ (s : State) (e : Edge) (rid : Nat) (r : ReadReq), s.vx.alive = true →
    let w := s.vx.atEdge e.val
    w.reads.find? (fun x => x.rid == rid) = some r →
    (∀ m cl n pools gen st, r.kind = .descr m cl n pools gen → r.got = [] → w.staleFetch m cl gen = false →
      ∃ t, exec (.descriptorFetchError e rid st) s = .next t ∧ OnlyVexone s t ∧ (t.vx.ring m (sqOf cl)).halted = true ∧
        (t.vx.ring m (sqOf cl)).dev = (w.ring m (sqOf cl)).dev ∧ t.vx.latched 0x0404 m.idx.val = true ∧
        t.vx.ops = w.ops ∧ (∀ x ∈ t.vx.reads, x.rid ≠ rid)) ∧
    (∀ p seq ofs len bytes o, r.kind = .buffer p seq ofs len → w.bufferOp p seq = some o →
      ∃ t o', exec (.bufferData e rid bytes) s = .next t ∧ OnlyVexone s t ∧ t.vx.opAt p = some o' ∧
        o'.buf = splice o.buf ofs (bytes.take len) ∧ o'.phase = o.phase ∧
        (len ≤ bytes.length → o'.bufLeft = o.bufLeft - 1 ∧ o'.admAt = max o.admAt w.now ∧ (∀ x ∈ t.vx.reads, x.rid ≠ rid)) ∧
        (bytes.length < len → o'.bufLeft = o.bufLeft ∧
          ∃ x ∈ t.vx.reads, x.rid = rid ∧ x.kind = .buffer p seq (ofs + bytes.length) (len - bytes.length))) ∧
    (∀ p seq ofs len o, r.kind = .buffer p seq ofs len → w.bufferOp p seq = some o →
      ∃ t, exec (.bufferReadError e rid) s = .next t ∧ OnlyVexone s t ∧ CompletesWith t.vx p 0xF6 0 ∧
        t.vx.latched 0x0405 o.m.idx.val = true ∧ (∀ x ∈ t.vx.reads, ∀ a n, x.kind ≠ .buffer p seq a n))) ∧
  ∀ (s : State) (p : Place) (o : Op), s.vx.alive = true → s.vx.opAt p = some o → o.phase = .admitted → o.bufLeft = 0 →
    (o.cls ≠ .u → s.vx.fenceClear o s.vx.clk.t0 = true → o.elig + 64 ≤ s.vx.clk.ticks →
      (o.cls = .c ∨ o.cls = .b → ∃ t, exec (.noCleatTimeout p) s = .next t ∧ OnlyVexone s t ∧ CompletesWith t.vx p 0x1A 0 ∧ t.vx.due = s.vx.due) ∧
      (o.cls = .p → s.vx.boundOp o = false → o.hadCtx = false → s.vx.residentOp o = false →
        ∃ t, exec (.noCleatTimeout p) s = .next t ∧ OnlyVexone s t ∧ CompletesWith t.vx p 0x20 0 ∧ t.vx.due = s.vx.due) ∧
      (s.vx.boundOp o = true → exec (.noCleatTimeout p) s = .next s)) ∧
    (s.vx.clk.ticks < o.elig + 64 → exec (.noCleatTimeout p) s = .next s)

/-- 05 R162, R166, R167: with no active image an operation that needs one, and is not of class U, fails with ST_NO_IMAGE before
any other check; past that, one with a reserved bit set, a TARGET out of range or a buffer that it does not use fails with
ST_BAD_ARG; either changes nothing but the cleat, the fan watchdog's reload and the completion. In a cleat that is used it
does not begin. -/
def Obligations.FirstChecksComeInOrder : Prop :=
  ∀ (s : State) (p : Place) (i k : Nat) (mk : Place → Nat → Instr) (o : Op) (e : Entry), (k, mk) ∈ operations →
    (Begins s.vx p i o e → o.opcode = k →
      let image := (begun s.vx p i o e).active
      (o.cls ≠ .u → (opInfo k).any (·.image) = true → image = none →
        exec (mk p i) s = .next (withVx s (leavesFailed s.vx p i o e 0x12 0))) ∧
      (o.cls = .u ∨ (opInfo k).any (·.image) = false ∨ image.isSome = true → o.reservedBad = true →
        exec (mk p i) s = .next (withVx s (leavesFailed s.vx p i o e 0x10 0)))) ∧
    (s.vx.sch.used.contains i = true → exec (mk p i) s = .next s)

/-- 05 R185, R186, Table 5-12; 15 Table 15-3: a query whose RES_LEN and buffer are good copies the state 32 CCLK into its cleat, and
completes with RES_LEN bytes of its record from OFFSET on, as many as there are, and their number in DETAIL; one whose RES_LEN or
buffer is bad, or whose KIND and index name no record, fails with ST_BAD_ARG; one that names an untracked handle with ST_HANDLE,
one whose context is not resident with ST_NO_CONTEXT (a query is never of class U). Nothing else of the device changes. -/
def Obligations.QueriesReturnTheirRecords : Prop :=
  (∀ (s : State) (p : Place) (i : Nat) (o : Op) (e : Entry), Begins s.vx p i o e → o.reservedBad = false →
    let b := begun s.vx p i o e
    let copies := Host.Outcome.next (φ := Fault) (ρ := Refusal) (withVx s (b.leave (b.now + 32) (.snap p o.seq i)))
    let fails := fun (st : Nat) => (Host.Outcome.next (φ := Fault) (ρ := Refusal) (withVx s (leavesFailed s.vx p i o e st 0)))
    (∀ k mk rec, (k, mk, rec) ∈ kindQueries → o.opcode = k →
      (o.queryBad = false → (rec b (o.a 1 3 0) o.target).isSome = true → exec (mk p i) s = copies) ∧
      (o.queryBad = true ∨ rec b (o.a 1 3 0) o.target = none → exec (mk p i) s = fails 0x10)) ∧
    (∀ k mk rec, (k, mk, rec) ∈ plainQueries → o.opcode = k →
      (o.queryBad = false → exec (mk p i) s = copies) ∧ (o.queryBad = true → exec (mk p i) s = fails 0x10)) ∧
    (∀ k mk rec, (k, mk, rec) ∈ handleQueries → o.opcode = k → o.cls ≠ .u → o.queryBad = false →
      (b.untracked o = true → exec (mk p i) s = fails 0x23) ∧
      (b.untracked o = false → (b.cx.get o.handle).resident = false → exec (mk p i) s = fails 0x20) ∧
      (b.untracked o = false → (b.cx.get o.handle).resident = true → exec (mk p i) s = copies))) ∧
  ∀ (v : Vexone) (p : Place) (i : Nat) (o : Op) (e : Entry), v.opAt p = some o → o.isComplete = false → v.entry i = some e →
    let part := fun (bytes : List Byte) => (bytes.drop (o.a 0 15 0)).take (o.a 0 31 16)
    let answers := fun (bytes : List Byte) =>
      v.runLater (.snap p o.seq i) = v.finish o e 0x00 (part bytes).length (part bytes)
    (∀ k mk rec bytes, (k, mk, rec) ∈ kindQueries → o.opcode = k → rec v (o.a 1 3 0) o.target = some bytes → answers bytes) ∧
    (∀ k mk rec, (k, mk, rec) ∈ plainQueries → o.opcode = k → answers (rec v)) ∧
    (∀ k mk rec, (k, mk, rec) ∈ handleQueries → o.opcode = k → ∀ c, v.ctxOf o.handle = some c → answers (rec v (v.cx.get o.handle) c)) ∧
    (∀ n, n ≠ o.seq → v.runLater (.snap p n i) = v)

/-- 06 R205 to R207, Table 6-2; 15 R519: a CX_WINDOW of one move, with the head of the demand queue tracked and not resident, no fill
owed a slot and a slot free, issues the fill of that handle: one read of its spoil record, at base + 128 x handle through the port
of the spoil area, a slot taken and the entry gone from the queue. With no owner, after owner loss, or without a spoil area it
issues nothing (R199, R216).
06 R204, R218; 04 R663: a fill whose record has a correct CHK, its own HANDLE and the handle table's GEN makes its handle
resident and clean; any other leaves it not resident and latches 0x0504; a read that fails leaves it not resident and latches
0x0505. A request of any kind that times out has the consequences of a read that failed, and a timeout before its time changes
nothing. -/
def Obligations.ContextWindowFillsAndFillsAreChecked : Prop :=
  (∀ (s : State) (i : Nat) (e : Entry), Activity s.vx i 0x0601 e →
     let w := s.vx.atEdge e.start
     (∀ x ∈ w.later, w.clk.t0 + e.start < x.at_) →
     (e.param ≤ 1 → w.cx.halted = true ∨ w.cx.spoil = none → exec (.cxWindow i) s = .next (withVx s w)) ∧
     (∀ (h : BitVec 12) (ap : Bool) (rest : List (BitVec 12 × Bool)) (base : BitVec 64) (m : Master), e.param = 1 →
       w.cx.halted = false → w.cx.spoil = some (base, m) → w.sch.run ≠ .egress → w.cx.reserve = [] →
       w.cx.demand = (h, ap) :: rest → (w.cx.get h).tracked = true → (w.cx.get h).ctx = none →
       (w.cx.get h).busy = false → (w.cx.get h).slot = none → 0 < w.cx.free → w.cx.freeSlot.isSome = true →
       ∃ t r, exec (.cxWindow i) s = .next t ∧ OnlyVexone s t ∧ t.vx.reads = w.reads ++ [r] ∧ r.m = m ∧
         r.kind = .fill h none ∧ r.at_ = w.now ∧ t.vx.out = w.out ++ [.read m r.rid (base.toNat + 128 * h.toNat) 128] ∧
         (t.vx.cx.get h).slot = w.cx.freeSlot ∧ (t.vx.cx.get h).busy = true ∧
         (∀ d ∈ t.vx.cx.demand, d ∈ rest) ∧ t.vx.cx.fills = w.cx.fills + 1 ∧ t.vx.faults = w.faults)) ∧
  ∀ (s : State) (e : Edge) (rid : Nat) (r : ReadReq), s.vx.alive = true →
    let w := s.vx.atEdge e.val
    w.reads.find? (fun x => x.rid == rid) = some r →
    (∀ (h : BitVec 12) (op : Option Place) (b : List Byte), r.kind = .fill h op →
      (let good := b.length = 128 ∧ leAt b 0x7E 2 = crc16 (b.take 0x7E) ∧ leAt b 0 2 = h.toNat ∧
        leAt b 2 2 = (w.cx.get h).gen.toNat ∧ (w.cx.get h).tracked = true
       ∃ t, exec (.fillData e rid b) s = .next t ∧ OnlyVexone s t ∧ (∀ x ∈ t.vx.reads, x.rid ≠ rid) ∧
        (t.vx.cx.get h).busy = false ∧ (t.vx.cx.get h).tracked = (w.cx.get h).tracked ∧
        (∀ k, k ≠ h → t.vx.cx.get k = w.cx.get k) ∧
        (good → (t.vx.cx.get h).resident = true ∧ (t.vx.cx.get h).slot = (w.cx.get h).slot ∧ t.vx.faults = w.faults) ∧
        (¬ good → (t.vx.cx.get h).resident = (w.cx.get h).resident ∧ (t.vx.cx.get h).slot = none ∧
          t.vx.latched 0x0504 0 = true)) ∧
      (∃ t, exec (.fillReadError e rid) s = .next t ∧ OnlyVexone s t ∧ (∀ x ∈ t.vx.reads, x.rid ≠ rid) ∧
        (t.vx.cx.get h).slot = none ∧ (t.vx.cx.get h).busy = false ∧
        (t.vx.cx.get h).tracked = (w.cx.get h).tracked ∧ t.vx.latched 0x0505 0 = true)) ∧
    (r.m ≠ .m2 → r.at_ + r.limit ≤ w.now → exec (.completionTimeout e rid) s =
      match r.kind with
      | .descr .. => exec (.descriptorFetchError e rid 0xFF) s
      | .buffer .. => exec (.bufferReadError e rid) s
      | .image .. => exec (.imageLoadReadError e rid) s
      | .fill .. => exec (.fillReadError e rid) s) ∧
    (w.now < r.at_ + r.limit → exec (.completionTimeout e rid) s = .next (withVx s w))

/-- 05 Table 5-8b; 06 R199, R205, R210 to R212, R214, R217: CX_PIN, CX_UNPIN, CX_KEY, CX_RETIRE and SPOIL_SET on handles that the
table admits wait for the tick; CX_HINT of a resident handle only protects it until 64 frames after its due frame, one of another
joins the hint queue. CX_FILL of a resident handle completes at once with its slot and bit 15 set; of another, with a slot free, it
issues the read of its record and runs on; with none and no clean candidate it fails with ST_STORE_FULL. CX_SPILL of an
unprotected resident handle posts its record under the next GEN, frees its slot and completes with ST_OK; of a protected one it
fails with ST_PINNED. -/
def Obligations.ContextOperationsMoveOneContext : Prop :=
  (∀ (s : State) (p : Place) (i : Nat) (o : Op) (e : Entry), Begins s.vx p i o e →
     let b := begun s.vx p i o e
     let x := b.cx.get o.handle
     (Asks b o 0x1703 → x.tracked = true → x.resident = true → (b.cx.pins < 256 ∨ x.pin = true) →
       exec (.cxPin p i) s = .next (withVx s (leavesDue s.vx p i o e (.cxPin o.handle) 0))) ∧
     (Asks b o 0x1704 → x.tracked = true →
       exec (.cxUnpin p i) s =
         .next (withVx s (leavesDue s.vx p i o e (.cxUnpin o.handle) (if x.pin = true then 0 else 0x8000)))) ∧
     (Asks b o 0x1706 → x.tracked = true → x.resident = true →
       exec (.cxKey p i) s = .next (withVx s (leavesDue s.vx p i o e
         (.cxKey o.handle (ofWords [o.arg 0, o.arg 1, o.arg 2, o.arg 3]) (BitVec.ofNat 8 (o.a 4 7 0))) 0))) ∧
     (Asks b o 0x1707 → x.tracked = true → b.protected x = false → (x.slot.isSome = true → x.resident = true) →
       exec (.cxRetire p i) s = .next (withVx s (leavesDue s.vx p i o e (.cxRetire o.handle) 0))) ∧
     (Asks b o 0x1708 → o.m ≠ .m2 → b.cx.spoilHeld = 0 → o.a 0 15 0 = 0 →
       exec (.spoilSet p i) s = .next (withVx s (leavesDue s.vx p i o e
         (.spoilSet (BitVec.ofNat 64 ((o.arg 0).toNat + (o.arg 1).toNat * 2 ^ 32)) o.m) 0))) ∧
     (Asks b o 0x1705 → x.tracked = true → b.laneDeclared (o.a 0 1 0) = true →
       (x.resident = true → exec (.cxHint p i) s = .next (withVx s ((b.modH o.handle fun y =>
         { y with hintTo := max y.hintTo (b.clk.ticks + o.a 0 15 8 + 64) }).finish o e 0x00 0))) ∧
       (x.resident = false → x.busy = false → exec (.cxHint p i) s = .next (withVx s ((b.addHint
         ⟨o.handle, b.clk.ticks + o.a 0 15 8, o.a 0 1 0, false, false⟩).finish o e 0x00 0))))) ∧
  (∀ (s : State) (p : Place) (i : Nat) (o : Op) (e : Entry) (base : BitVec 64) (m : Master), Begins s.vx p i o e →
     let b := begun s.vx p i o e
     let x := b.cx.get o.handle
     b.cx.spoil = some (base, m) → x.tracked = true →
     (∀ n, Asks b o 0x1701 → b.eg.active = false → x.resident = true → x.slot = some n →
       exec (.cxFill p i) s = .next (withVx s (b.finish o e 0x00 (n + 0x8000)))) ∧
     (∀ n, Asks b o 0x1701 → b.eg.active = false → x.resident = false → x.busy = false → x.slot = none →
       b.cx.freeSlot = some n → 0 < b.cx.free →
       ∃ t r o', exec (.cxFill p i) s = .next t ∧ OnlyVexone s t ∧ t.vx.reads = b.reads ++ [r] ∧
         r.kind = .fill o.handle (some p) ∧ r.m = m ∧ (t.vx.cx.get o.handle).slot = some n ∧
         (t.vx.cx.get o.handle).busy = true ∧ t.vx.opAt p = some o' ∧ o'.phase = .running ∧ t.vx.due = b.due) ∧
     (Asks b o 0x1701 → b.eg.active = false → x.resident = false → x.busy = false → x.slot = none → b.cx.free = 0 →
       b.cleanCandidate = none →
       ∃ t, exec (.cxFill p i) s = .next t ∧ OnlyVexone s t ∧ t.vx.reads = b.reads ∧ t.vx.cx.tab = b.cx.tab ∧
         CompletesWith t.vx p 0x21 0) ∧
     (Asks b o 0x1702 → o.cls ≠ .u → b.protected x = true →
       exec (.cxSpill p i) s = .next (withVx s (leavesFailed s.vx p i o e 0x22 0))) ∧
     (Asks b o 0x1702 → b.protected x = false → x.resident = true →
       ∃ t ws, exec (.cxSpill p i) s = .next t ∧ OnlyVexone s t ∧
         t.vx.out = b.out ++ [.post m (base.toNat + 128 * o.handle.toNat) ws] ∧ ws.length = 32 ∧
         (t.vx.cx.get o.handle).resident = false ∧ (t.vx.cx.get o.handle).slot = none ∧
         (t.vx.cx.get o.handle).tracked = true ∧ (t.vx.cx.get o.handle).gen = x.gen + 1 ∧ CompletesWith t.vx p 0x00 0))

/-- 05 Table 5-3; 15 Table 15-3: FIELD_HALT voids the pending UNFURLs of its segments, leaves their furl for 16 CCLK on and tells how
many were unfurled; UNFURL with the clock good, no egress, no latched fault on a named segment that this frame does not clear and the
field rail switching waits for the tick, and is refused otherwise with the status of the first of those checks that fails (R166,
R189, R191; 01 R39, R44); FURL, REEF and LEG_DRIVE of a furled segment wait for the tick; REEF_CAP and SEG_COMP write halves of their
pairs (R169). -/
def Obligations.FieldOperationsActOnTheirSegments : Prop :=
  (∀ (s : State) (p : Place) (i : Nat) (o : Op) (e : Entry), Begins s.vx p i o e → o.reservedBad = false →
    let b := begun s.vx p i o e
    (o.opcode = 0x1201 → b.unfurlPending &&& o.segMask = 0 →
      ∃ t, exec (.fieldHalt p i) s = .next t ∧ OnlyVexone s t ∧ t.vx.segs = b.segs ∧ Leaves t.vx (b.now + 16) (.haltFurl o.segMask) ∧
        t.vx.fb = b.fb ∧ t.vx.ax = b.ax ∧ t.vx.lanes = b.lanes ∧ t.vx.due = b.due ∧ t.vx.pairs = b.pairs ∧
        CompletesWith t.vx p 0x00 (countOnes (o.segMask &&& b.unfurled))) ∧
    (o.opcode = 0x1202 → o.cls = .c → b.active.isSome = true → o.segMask &&& ~~~b.declSegs = 0 →
      let bad := firstSome ((segsOf o.segMask).map fun k => b.segHeld k.val)
      (b.eg.active = true → exec (.unfurl p i) s = .next (withVx s (leavesFailed s.vx p i o e 0x15 0))) ∧
      (b.eg.active = false → b.onBackup = true →
        exec (.unfurl p i) s = .next (withVx s (leavesFailed s.vx p i o e 0x16 (0x0100 + b.clk.cause.toNat)))) ∧
      (∀ c, b.eg.active = false → b.onBackup = false → b.fr.role ≠ 2 → bad = some c →
        exec (.unfurl p i) s = .next (withVx s (leavesFailed s.vx p i o e 0x14 c))) ∧
      (b.eg.active = false → b.onBackup = false → b.fr.role ≠ 2 → bad = none → b.fb.switching = false →
        exec (.unfurl p i) s = .next (withVx s (leavesFailed s.vx p i o e 0x13 0))) ∧
      (b.eg.active = false → b.onBackup = false →
        (b.fr.role ≠ 2 ∨ b.fr.st = .locked ∧ b.fr.aligned = true) → bad = none → b.fb.switching = true →
        exec (.unfurl p i) s = .next (withVx s (leavesDue s.vx p i o e (.unfurl o.segMask)
          (countOnes (o.segMask &&& ~~~(b.unfurled ||| b.unfurlPending))))))) ∧
    (o.opcode = 0x1203 → b.active.isSome = true → o.segMask &&& ~~~b.declSegs = 0 →
      exec (.furl p i) s =
        .next (withVx s (leavesDue s.vx p i o e (.furl o.segMask) (countOnes (o.segMask &&& b.unfurled))))) ∧
    (o.opcode = 0x1204 → b.active.isSome = true → b.laneDeclared o.target = true →
      exec (.reef p i) s = .next (withVx s (leavesDue s.vx p i o e (.reef o.lane (Fin.ofNat 4 (o.a 0 1 0))) 0))) ∧
    (o.opcode = 0x1207 → b.active.isSome = true → o.a 0 13 8 ≤ 24 → b.declSegs.getLsbD o.target = true →
      b.segs[o.seg].live = false →
      exec (.legDrive p i) s =
        .next (withVx s (leavesDue s.vx p i o e (.legDrive o.seg (o.a 0 2 0) (o.a 0 6 4) (o.a 0 13 8)) 0))) ∧
    (o.opcode = 0x1205 → b.active.isSome = true → b.laneDeclared o.target = true → o.halves ≠ 0 →
      (o.halves % 2 = 1 → o.a 0 5 0 ≤ 32) → (2 ≤ o.halves → 200 ≤ o.a 0 26 16 ∧ o.a 0 26 16 ≤ min 1400 b.fbusMax) →
      exec (.reefCap p i) s = .next (withVx s ((b.pairWrite (.reef o.lane) (o.half 0 (o.a 0 5 0))
        (o.half 1 (o.a 0 26 16))).finish o e 0x00 0))) ∧
    (o.opcode = 0x1206 → b.active.isSome = true → b.declSegs.getLsbD o.target = true → o.halves ≠ 0 →
      (o.halves % 2 = 1 → 1 ≤ o.a 0 15 8) → (2 ≤ o.halves → 1 ≤ o.a 0 23 16) →
      exec (.segComp p i) s = .next (withVx s ((b.pairWrite
        (if o.a 0 0 0 = 0 then .segShort o.seg else .segOpen o.seg) (o.half 0 (o.a 0 15 8))
        (o.half 1 (o.a 0 23 16))).finish o e 0x00 0)))) ∧
  ∀ (v : Vexone) (m : BitVec 16) (k : SegId), (m.getLsbD k.val = true → FurlDue (v.runLater (.haltFurl m)).segs[k]) ∧
    (m.getLsbD k.val = false → drive (v.runLater (.haltFurl m)).segs[k] = drive v.segs[k])

/-- 07 Table 7-4, R233, R237 to R242, R270: CARRIER and ISO_SLOT apply the carrier vectors to the segments that they name and to no
other, and ISO_SLOT counts one REQA on each of them that carries and does not listen; REFRESH leaves fault-off, stops a running
segment at its crossing for the rest of the activity and conducts both low sides of another; SEG_DIAG tests furled segments without a
latched fault alone, and moves none; at its last edge 0x0604 latches for those that fail and the diagnostic that waits for a tested
one ends. -/
def Obligations.FieldActivitiesDriveTheirSegments : Prop :=
  (∀ (s : State) (i : Nat) (e : Entry) (uW : Vector Nat 16) (failed : BitVec 16),
    let w := s.vx.atEdge e.start
    let applies := fun (t : State) => ∀ k : SegId,
      (e.segs.getLsbD k.val = false → t.vx.segs[k] = w.segs[k]) ∧
      (e.segs.getLsbD k.val = true →
        Applied w w.segs[k] t.vx.segs[k] w.segs[k].cp w.segs[k].cs w.lanes[laneOf k].cap (e.start + e.dur))
    (Activity s.vx i 0x0101 e → ∃ t, exec (.carrier i uW) s = .next t ∧ OnlyVexone s t ∧ t.vx.lanes = w.lanes ∧ t.vx.fb = w.fb ∧
      applies t) ∧
    (Activity s.vx i 0x0102 e → ∃ t, exec (.isoSlot i) s = .next t ∧ OnlyVexone s t ∧ t.vx.sess = w.sess ∧ t.vx.lanes = w.lanes ∧
      applies t ∧ ∀ k : SegId, e.segs.getLsbD k.val = true →
        (w.listening k = true ∨ w.segs[k].live = false → t.vx.segs[k].cnt = w.segs[k].cnt) ∧
        (w.listening k = false → w.segs[k].phase = .carrying → w.segs[k].waitBst = false → w.segs[k].skipped = false →
          w.segs[k].guarded = false → t.vx.segs[k].cnt = vcount w.segs[k].cnt 5)) ∧
    (Activity s.vx i 0x0103 e → ∃ t, exec (.refresh i) s = .next t ∧ OnlyVexone s t ∧
      ∀ k : SegId,
        let x := w.segs[k]
        let till := w.clk.t0 + e.start + e.dur
        (e.segs.getLsbD k.val = false ∨ x.phase = .faultOff → t.vx.segs[k] = x) ∧
        (e.segs.getLsbD k.val = true → x.phase ≠ .faultOff → t.vx.segs[k].phase = x.phase ∧ t.vx.segs[k].refreshAt = w.clk.ticks ∧
          (x.phase ≠ .carrying → t.vx.segs[k].pulseTo = till) ∧
          (x.runs = true → x.stopping = false → t.vx.segs[k].act = some (w.crossing x w.step4, .rest till)))) ∧
    (Activity s.vx i 0x0104 e → ∃ t, exec (.segDiag i failed) s = .next t ∧ OnlyVexone s t ∧ t.vx.segs = w.segs ∧ t.vx.faults = w.faults ∧
      ∀ k : SegId, e.segs.getLsbD k.val = true → w.segs[k].phase = .furled → w.segLatched k.val = none →
        Leaves t.vx (w.clk.t0 + e.last) (.segDiag k (failed.getLsbD k.val)))) ∧
  ∀ (v : Vexone) (k : SegId) (failed : Bool),
    let u := v.runLater (.segDiag k failed)
    (failed = true → u.latched 0x0604 k.val = true) ∧ (failed = false → u.faults = v.faults) ∧ u.segs = v.segs ∧
    ∀ d ∈ u.diags, ¬ (d.test = 1 ∧ d.unit = k.val)

/-- 07 R242 to R246, R263, Table 7-2: a short puts its segment into fault-off with 0x0601 latched for it, whatever it was but
fault-off; a judged open load furls its segment at its crossing with 0x0602, and one that a short has stopped in this very CCLK only
latches it too; a bootstrap fault on a carrying segment furls it at its next crossing with 0x0603, and 512 CCLK of waiting for the
bootstraps at once; good bootstraps let a waiting segment start at the next period boundary. No other segment's outputs change. -/
def Obligations.SegmentProtectionsActOnTheirSegment : Prop :=
  ∀ (s : State) (e : Edge) (k : SegId) (a b : Bool), s.vx.alive = true →
    let w := s.vx.atEdge e.val
    let x := w.segs[k]
    let gives := fun (c : Instr) (P : State → Seg → Prop) => ∃ t, exec c s = .next t ∧ OnlyVexone s t ∧
      (∀ j : SegId, j ≠ k → drive t.vx.segs[j] = drive w.segs[j]) ∧ t.vx.fb = w.fb ∧ t.vx.lanes = w.lanes ∧ P t t.vx.segs[k]
    (w.openJudged x = true → (∀ n, x.act ≠ some (n, .furl)) → gives (.openLoad e k) fun t y => t.vx.latched 0x0602 k.val = true ∧
      y.act = some (w.crossing x (w.step4 - 3), .furl)) ∧
    (∀ n, w.openJudged x = true → x.act = some (n, .furl) → gives (.openLoad e k) fun t y => t.vx.latched 0x0602 k.val = true ∧
      y.act = x.act) ∧
    (x.phase = .faultOff → x.shortAt = some w.now → gives (.openLoad e k) fun t y => drive y = drive x ∧
      t.vx.latched 0x0602 k.val = true) ∧
    (w.openJudged x = false → x.phase ≠ .faultOff ∨ x.shortAt ≠ some w.now → exec (.openLoad e k) s = .next (withVx s w)) ∧
    (x.phase = .carrying → (a || b) = true → gives (.bootstrapFault e k a b) fun t y => FurlDue y ∧ y.bstA = (x.bstA && !a) ∧
      y.bstB = (x.bstB && !b) ∧ t.vx.latched 0x0603 k.val = true) ∧
    (x.phase = .dark → x.waitBst = true → x.waitTo ≤ w.now → gives (.bootstrapTimeout e k) fun t y => y.phase = .furled ∧
      y.waitBst = false ∧ t.vx.latched 0x0603 k.val = true) ∧
    (x.waitBst = false ∨ w.now < x.waitTo → exec (.bootstrapTimeout e k) s = .next (withVx s w)) ∧
    (x.phase ≠ .faultOff → gives (.segmentShort e k) fun t y => y.phase = .faultOff ∧ y.act = none ∧ t.vx.latched 0x0601 k.val = true) ∧
    (x.phase = .faultOff → exec (.segmentShort e k) s = .next (withVx s w)) ∧
    gives (.bootstrapReady e k) fun _ y => y.bstA = true ∧ y.bstB = true ∧ y.waitBst = false ∧ y.phase = x.phase ∧
      (x.waitBst = true → x.phase = .dark → w.clk.edge < x.holdTo → y.act = some (w.boundary, .start x.want.1 x.want.2)) ∧
      (x.waitBst = false → y.act = x.act)

/-- 05 R172, Table 5-4; 07 Table 7-10, R258 to R260: ISO_ACTIVATE, APDU and DESELECT that their checks let through open a session of
their handle, its limits those of its lane, and run on; SESS_LIMITS at or above the least timeout waits for the tick, and one
below it is refused with ST_BELOW_MIN and that timeout. -/
def Obligations.SessionOperationsOpenASession : Prop :=
  ∀ (s : State) (p : Place) (i : Nat) (o : Op) (e : Entry),
    (∀ (b : Binding) (c : Ctx), BeginsSession s.vx p i o e b c → o.reservedBad = false →
      let g := begunSession s.vx p o e
      let l := g.lanes[g.laneOfLoc c.loc]
      let opens := fun (cmd : Instr) (ph : SessPhase) => ∃ t x o', exec cmd s = .next t ∧ OnlyVexone s t ∧
        t.vx.sess = g.sess ++ [x] ∧ x.place = p ∧ x.handle = o.handle ∧ x.tracks = b.tracks ∧ x.phase = ph ∧
        x.timeout = l.timeout ∧ x.retries = l.retries ∧ x.attempts = 0 ∧ x.bindTick = g.clk.ticks ∧ x.toSend = true ∧
        x.listening = false ∧ t.vx.opAt p = some o' ∧ o'.phase = .running ∧ t.vx.segs = g.segs ∧ t.vx.sch = g.sch
      g.active.isSome = true →
      (o.opcode = 0x1101 → o.a 0 1 0 ≠ 3 → 64 ≤ o.bufLen → g.laneBusy o.handle = false →
        opens (.isoActivate p i) (if c.isoState = 3 then .wake else .request)) ∧
      (o.opcode = 0x1102 → o.a 0 15 0 ≠ 0 → o.a 0 15 0 ≤ o.bufLen → c.isoState = 2 → opens (.apdu p i) (.command 0)) ∧
      (o.opcode = 0x1103 → c.isoState = 2 → opens (.deselect p i) .deselect)) ∧
    (Begins s.vx p i o e → let b := begun s.vx p i o e
      Asks b o 0x1104 → o.cls = .c → o.a 0 15 0 ≠ 0 → o.a 0 15 0 ≤ 10000 → o.a 1 2 0 ≤ 4 →
      b.laneDeclared o.target = true →
      (83 * (o.a 1 2 0 + 1) ≤ o.a 0 15 0 →
        exec (.sessLimits p i) s =
          .next (withVx s (leavesDue s.vx p i o e (.sessLimits o.lane (o.a 0 15 0) (o.a 1 2 0)) 0))) ∧
      (o.a 0 15 0 < 83 * (o.a 1 2 0 + 1) →
        exec (.sessLimits p i) s = .next (withVx s (leavesFailed s.vx p i o e 0x17 (83 * (o.a 1 2 0 + 1))))))

/-- 07 Table 7-4, R254, R256 to R260; 05 Table 5-2: an answer to a REQA of an ISO_SLOT on a carrying segment that does not listen
counts on its segment; one to the S(DESELECT) of a session ends it with ST_OK and its pass no longer activated; one after the
session timeout is discarded with 0x0605. A collision in anticollision keeps the bits received alike and searches on among the
passes with 1 at the next. A wait that passes costs an attempt, and past RETRIES ends the session, with ST_PASS_LOST where no attempt
was answered and ST_PROTOCOL else, and the pass indeterminate; the session timeout ends it with ST_SESSION_TIMEOUT. -/
def Obligations.SessionsTakeAnswersAndTimeouts : Prop :=
  (∀ (s : State) (e : Edge) (k : SegId) (x : Session) (c : Ctx), s.vx.alive = true →
    let w := s.vx.atEdge e.val
    let heard := w.sess.find? fun y => y.listening && y.tracks.getLsbD k.val
    (∀ h, heard = none → w.inIsoSlot k e = true → ∃ t, exec (.isoAnswer e k (.atqa h)) s = .next t ∧ OnlyVexone s t ∧
      t.vx.segs[k].cnt = vcount w.segs[k].cnt 6 ∧ SameDrives w t.vx ∧
      t.vx.lanes[laneOf k].cnt = vcount w.lanes[laneOf k].cnt 0 ∧ t.vx.sess = w.sess) ∧
    (heard = some x → x.phase = .deselect → w.ctxOf x.handle = some c → Holds w x.place →
      ∃ t c', exec (.isoAnswer e k (.good [0xC2])) s = .next t ∧ OnlyVexone s t ∧
        t.vx.sess = w.sess.filter (fun y => y.place != x.place) ∧ t.vx.ctxOf x.handle = some c' ∧ c'.isoState = 0 ∧
        CompletesWith t.vx x.place 0x00 0) ∧
    (∀ f, heard = some x → x.phase = .over → ∃ t, exec (.isoAnswer e k f) s = .next t ∧ OnlyVexone s t ∧
      t.vx.sess = w.sess.filter (fun y => y.place != x.place) ∧ t.vx.latched 0x0605 x.lane.val = true ∧
      t.vx.segs = w.segs) ∧
    (heard = some x → x.phase ≠ .over → x.phase ≠ .wake → x.listenTo ≤ w.now →
      x.retries ≤ x.attempts → Holds w x.place → w.ctxOf x.handle = some c →
      ∃ t c', exec (.isoAnswerTimeout e k) s = .next t ∧ OnlyVexone s t ∧ (∀ y ∈ t.vx.sess, y.place ≠ x.place) ∧
        t.vx.ctxOf x.handle = some c' ∧ c'.isoState = 3 ∧
        (x.silent = true → CompletesWith t.vx x.place 0x30 0) ∧ (x.silent = false → CompletesWith t.vx x.place 0x31 0)) ∧
    (heard = some x → w.now < x.listenTo → exec (.isoAnswerTimeout e k) s = .next (withVx s w))) ∧
  (∀ (s : State) (p : Place) (x : Session) (c : Ctx), s.vx.alive = true → s.vx.sessOf p = some x → x.phase ≠ .over →
    (x.bindTick + x.timeout ≤ s.vx.clk.ticks → Holds s.vx p → s.vx.ctxOf x.handle = some c →
      ∃ t c', exec (.sessionTimeout p) s = .next t ∧ OnlyVexone s t ∧ t.vx.ctxOf x.handle = some c' ∧ c'.isoState = 3 ∧
        (∀ y ∈ t.vx.sess, y.place = p → y.phase = .over ∧ y.toSend = false ∧ x.listening = true) ∧
        t.vx.lanes[x.lane].cnt = vcount s.vx.lanes[x.lane].cnt 5 ∧ CompletesWith t.vx p 0x32 0) ∧
    (s.vx.clk.ticks < x.bindTick + x.timeout → exec (.sessionTimeout p) s = .next s)) ∧
  ∀ (v : Vexone) (x : Session) (n : Nat) (alike : List Bool), v.sessOf x.place = some x → v.openWindow x.handle = none →
    (∃ y, (v.takeCollision x n alike).sessOf x.place = some y ∧
      ((x.known ++ alike ++ [true]).length < 32 → y.known = x.known ++ alike ++ [true] ∧ y.phase = x.phase) ∧
      (32 ≤ (x.known ++ alike ++ [true]).length → y.phase = .select n))

/-- 07 Table 7-4, R238, R250, R256; 08 R276: a P_CLEAT with no binding applies the carrier vectors to the pair of its segments; one
bound to a handle whose context is held, with no session listening and a segment of its pair unfurled, steers its pair by the
vector bound, records the coupled power measured in the frame's cleats of the handle and, where the pass answered, the frame. Either
uses up its cleat, and no other segment's outputs change. -/
def Obligations.PCleatServesItsBinding : Prop :=
  ∀ (s : State) (i : Nat) (uW : Vector Nat 2) (answered cut : Bool) (e : Entry) (k j : SegId), Ticks s.vx → s.vx.entry i = some e →
    e.kind = 1 → e.cls = 2 → s.vx.sch.used.contains i = false →
    let w := s.vx.atEdge e.start
    let bound := w.sch.bind.find? fun b => (b.first == i || b.second == i) && !b.lost
    w.isRack = false → segsOf e.segs = [k, j] → k.val % 2 = 0 → j.val % 2 = 1 →
    (∀ x ∈ w.sess, x.listening = true → x.tracks &&& e.segs = 0) →
    let steers := fun (t : State) (vec : Vector Nat 4) =>
      Applied w w.segs[k] t.vx.segs[k] vec[0] vec[1] w.lanes[laneOf k].cap (e.start + e.dur) ∧
      Applied w w.segs[j] t.vx.segs[j] vec[2] vec[3] w.lanes[laneOf j].cap (e.start + e.dur) ∧
      ∀ n : SegId, n ≠ k → n ≠ j → drive t.vx.segs[n] = drive w.segs[n]
    (bound = none → ∃ t, exec (.pCleat i uW answered cut) s = .next t ∧ OnlyVexone s t ∧
      t.vx.sch = { w.sch with used := w.sch.used ++ [i] } ∧ t.vx.cx = w.cx ∧ t.vx.lanes = w.lanes ∧
      steers t #v[w.segs[k].cp, w.segs[k].cs, w.segs[j].cp, w.segs[j].cs]) ∧
    (∀ b c, bound = some b → w.ctxOf b.handle = some c → w.unfurled &&& e.segs ≠ 0 →
      let coupled := ((w.steer e b.vec).measurePair e b.vec uW).2
      ∃ t c', exec (.pCleat i uW answered cut) s = .next t ∧ OnlyVexone s t ∧
        t.vx.sch.used = w.sch.used ++ [i] ∧ t.vx.ctxOf b.handle = some c' ∧
        c'.cLast = min 65535 ((b.coupled + coupled) / (b.lit + e.dur : Nat)).toNat ∧
        c'.lastFrame = (if answered then w.clk.frame.toNat else c.lastFrame) ∧ c'.grantTot = c.grantTot ∧
        steers t b.vec ∧ t.vx.lanes = w.lanes ∧ t.vx.fb = w.fb)

/-- 08 R273, R294, R299; 18 R614: a hello in the fragments of an offered tag assigns it and sends ASSIGN under the next SEQ; two
hellos at once are an event alone; in a rack another card's hello mutes the pass. A report in error counts as missed, one of
another bank only latches 0x0705, a good one is the last report. 64 frames without one send KEEP, after four of those the tag
goes; 16 BEACONs without an answer latch 0x0706 and end the offer for 64 frames. ENERGY_CAP waits for the tick. -/
def Obligations.EnergyLoopHearsItsPasses : Prop :=
  (∀ (s : State) (e : Edge) (h : BitVec 12) (bits : BitVec 64) (c : Ctx) (l : LoopRec), s.vx.alive = true →
    let w := s.vx.atEdge e.val
    w.ctxOf h = some c → w.loopOf h = some l →
      let lane := (w.laneOfLoc c.loc).val
      let after := fun (t : State) (P : Ctx → LoopRec → Prop) =>
        OnlyVexone s t ∧ t.vx.fb = w.fb ∧ ∃ c' l', t.vx.ctxOf h = some c' ∧ t.vx.loopOf h = some l' ∧ P c' l'
      (∀ tg, l.offer = some tg → repGood bits = true → repFld bits 8 8 = 1 →
        ((w.isRack = false ∨ c.passId = 0 ∨ c.passId = helloId bits) →
          ∃ t, exec (.hello e h bits) s = .next t ∧ after t fun c' l' => c'.tagged = true ∧ c'.tag = tg ∧
            c'.passId = helloId bits ∧ c'.nonce = helloNonce bits ∧ c'.acnt = 0 ∧ c'.seq = (c.seq + 1) % 16 ∧ l'.offer = none ∧
            l'.dir.map (fun d => (d.op, d.arg, d.seq)) = some (1, tg * 1024 + helloId bits % 1024, (c.seq + 1) % 16)) ∧
        (w.isRack = true → c.passId ≠ 0 → c.passId ≠ helloId bits →
          ∃ t, exec (.hello e h bits) s = .next t ∧ after t fun c' l' => c'.tagged = c.tagged ∧ c'.passId = c.passId ∧
            l'.mute = true ∧ l'.offer = none ∧ l'.dir = none ∧ t.vx.rack.nMis = min 65535 (w.rack.nMis + 1))) ∧
      (∀ tg, l.offer = some tg → repGood bits = false → ∃ t, exec (.hello e h bits) s = .next t ∧ OnlyVexone s t ∧
        t.vx.cx = w.cx ∧ t.vx.rack = w.rack ∧ t.vx.lanes = w.lanes) ∧
      (l.offer = none → exec (.hello e h bits) s = .next (withVx s w)) ∧
      (c.tagged = true → repFld bits 8 8 = 0 → repGood bits = false →
        ∃ t, exec (.energyReport e h bits) s = .next t ∧ after t fun c' l' => c'.missedRep = min 255 (c.missedRep + 1) ∧
          l'.rep = l.rep ∧ l'.noRep = l.noRep ∧ t.vx.faults = w.faults) ∧
      (c.tagged = true → repFld bits 8 8 = 0 → repGood bits = true → repFld bits 11 9 ≠ w.bankId →
        ∃ t, exec (.energyReport e h bits) s = .next t ∧ OnlyVexone s t ∧ t.vx.cx = w.cx ∧ t.vx.latched 0x0705 lane = true) ∧
      (c.tagged = true → repFld bits 8 8 = 0 → repGood bits = true → repFld bits 11 9 = w.bankId →
        ∃ t, exec (.energyReport e h bits) s = .next t ∧ after t fun c' l' => c'.lastSeq = repFld bits 22 19 ∧
          c'.lastFrame = w.clk.frame.toNat ∧ c'.missedRep = c.missedRep ∧ l'.rep = some bits ∧ l'.noRep = 0 ∧
          (repFld bits 13 13 = 1 → t.vx.latched 0x0703 lane = true)) ∧
      (c.tagged = true → 64 ≤ l.noRep → l.keeps < 4 →
        ∃ t, exec (.reportTimeout e h) s = .next t ∧ after t fun c' l' => c'.tagged = true ∧ c'.seq = (c.seq + 1) % 16 ∧
          l'.keeps = l.keeps + 1 ∧ l'.noRep = 0 ∧ l'.dir.map (fun d => (d.op, d.arg)) = some (9, 0)) ∧
      (c.tagged = true → 64 ≤ l.noRep → 4 ≤ l.keeps →
        ∃ t, exec (.reportTimeout e h) s = .next t ∧ after t fun c' l' => c'.tagged = false ∧ c'.outstanding = false ∧
          l'.dir = none ∧ l'.queue = [] ∧ l'.offer = none) ∧
      (l.noRep < 64 → exec (.reportTimeout e h) s = .next (withVx s w)) ∧
      (l.offer.isSome = true → 16 ≤ l.beacons → l.dir.any (fun d => d.endedBy w.now) = true →
        ∃ t, exec (.beaconExhausted e h) s = .next t ∧ after t fun c' l' => c'.tagged = c.tagged ∧ l'.offer = none ∧
          l'.dir = none ∧ l'.quietTo = w.clk.ticks + 64 ∧ t.vx.latched 0x0706 lane = true)) ∧
    (∀ (s : State) (p : Place) (i : Nat) (o : Op) (n : Entry), Begins s.vx p i o n → let b := begun s.vx p i o n
      Asks b o 0x1105 → (b.cx.get o.handle).tracked = true → (b.cx.get o.handle).resident = true →
      exec (.energyCap p i) s = .next (withVx s (leavesDue s.vx p i o n (.energyCap o.handle (o.a 0 15 0)) 0)))

/-- 08 Table 8-5, R295, R296; 09 R317, R320, R322, R326; 10 R355, R369: the judged directive at the head acts as its row says, and
any other command leaves the pass as it is: ASSIGN takes handle and tag; OP_SET and VTGT_SET set the operating point; stages are
only kept; COMMIT puts the staged current and voltage in force within their limits, a lower voltage than the cell's ending the
charge, or is rejected whole by an invalid PG pair; POLICY sets the policy, the tracker starting under policy 3; KEEP changes
nothing; RELEASE drops tag and remote mode; BEACON is answered by a pass without a handle; 256 frames without a directive, and no
sooner, end remote mode. -/
def Obligations.DirectivesActOnThePass : Prop :=
  ∀ (s : State),
    let l := s.lav
    (∀ (d : Directive) (rest : List Directive), l.link.judged = d :: rest →
      let acts := fun (cmd : Instr) (op : Nat) (P : Lalvo → Prop) =>
        (d.op.toNat = op → ∃ t, exec cmd s = .next t ∧ OnlyLalvo s t ∧ t.lav.link.judged = rest ∧ t.lav.nvm = l.nvm ∧
          t.lav.mode = l.mode ∧ P t.lav) ∧
        (d.op.toNat ≠ op → exec cmd s = .next s)
      acts .assign 0x01 (fun t => t.link.handle = d.handle ∧ t.link.tag.toNat = d.a 13 10 ∧ t.link.bank = l.link.bank ∧
        t.link.hasHandle = true ∧ t.link.tagged = true ∧ t.link.acnt = 0 ∧ t.link.remote = true ∧ t.link.helloTag = none ∧
        t.set = l.set ∧ t.chg = l.chg) ∧
      acts .opSet 0x02 (fun t => t.set.tune = d.a 13 8 ∧ t.set.dirRatio = some (d.a 7 5 + 1) ∧ t.set.vtgt = l.set.vtgt ∧
        (t.set.ratio = 8 ∨ d.a 7 5 + 1 ≤ t.set.ratio) ∧ t.link.remote = true) ∧
      acts .vtgtSet 0x03 (fun t => t.set.vtgt = 8 * max 25 (min 250 (d.a 7 0)) ∧ t.set.tune = l.set.tune ∧
        t.link.remote = true) ∧
      acts .ichgStage 0x04 (fun t => t.link.stIchg = some (d.a 8 0) ∧ t.link.remote = true ∧ t.set = l.set) ∧
      acts .vchgStage 0x05 (fun t => t.link.stVchg = some (3800 + 2 * d.a 7 0) ∧ t.link.remote = true ∧ t.set = l.set) ∧
      acts .pgStage 0x06 (fun t => t.link.stPg = some (d.a 9 5, d.a 4 0) ∧ t.link.remote = true ∧ t.set = l.set) ∧
      acts .commit 0x07 (fun t => t.link.remote = true ∧
        (∀ x, d.a 2 0 = 1 → l.link.stIchg = some x → t.set.ichg = max 1 (min x l.ichgMax) ∧ t.link.stIchg = none ∧
          t.set.pgHi = l.set.pgHi) ∧
        (∀ x, d.a 2 0 = 2 → l.link.stVchg = some x → t.set.vchg = min x l.vchgMax ∧ t.link.stVchg = none ∧
          (t.set.vchg ≠ l.set.vchg → l.chg = .cc → t.chg = if t.effVchg < l.vcs then .done else .cc) ∧
          (t.set.vchg = l.set.vchg → t.chg = l.chg)) ∧
        (∀ hi lo, d.a 2 0 = 4 → l.link.stPg = some (hi, lo) →
          (pgValid hi lo l.set.vhold l.vchgWord = true → t.set.pgHi = hi ∧ t.set.pgLo = lo ∧ t.link.stPg = none) ∧
          (pgValid hi lo l.set.vhold l.vchgWord = false → t.set = l.set ∧ t.link.stPg = some (hi, lo) ∧
            t.link.commitBad = true))) ∧
      acts .policy 0x08 (fun t => t.pol = d.a 1 0 ∧ t.link.remote = true ∧ t.set = l.set ∧
        t.trk = if d.a 1 0 = 3 then LavTracker.reset else l.trk) ∧
      acts .keep 0x09 (fun t => t = { l with link := { l.link with judged := rest } }) ∧
      acts .directiveRelease 0x0A (fun t => t.link.tagged = false ∧ t.link.remote = false ∧
        t.link.hasHandle = l.link.hasHandle ∧ t.link.handle = l.link.handle ∧ t.set.dirRatio = none ∧ t.trk = LavTracker.reset) ∧
      acts .beacon 0x3F (fun t => (l.link.hasHandle = true → t = { l with link := { l.link with judged := rest } }) ∧
        (l.link.hasHandle = false → l.link.beaconOf = none → t.link.helloTag = some d.tag ∧ t.link.beacons = 1) ∧
        (∀ q, l.link.hasHandle = false → l.link.beaconOf = some (d.handle, q) → q ≠ d.seq →
          t.link.beacons = l.link.beacons + 1 ∧ (t.link.helloTag = some d.tag ∨ t.link.helloTag = l.link.helloTag)))) ∧
    (l.link.judged = [] → ∀ cmd ∈ [Instr.assign, .opSet, .vtgtSet, .ichgStage, .vchgStage, .pgStage, .commit, .policy, .keep,
      .directiveRelease, .beacon], exec cmd s = .next s) ∧
    (l.mode = .active → l.link.remote = true → l.past l.link.remoteAt 256000 = true →
      ∃ t, exec .remoteModeTimeout s = .next t ∧ OnlyLalvo s t ∧ t.lav.link.remote = false ∧ t.lav.set.dirRatio = none ∧
        t.lav.trk = LavTracker.reset ∧ t.lav.pol = l.pol) ∧
    (l.past l.link.remoteAt 256000 = false → exec .remoteModeTimeout s = .next s)

/-- 08 R286 to R292, R298: a fragment of a start marker, COPY, TAG and the whole of an unauthenticated copy, with a right CRC-8, of
a new directive that is meant for the pass and needs no MAC, makes the pass hold it where the other stream of its tag has lost no
copy, and accept it where it has; a BEACON counts each time. A copy with a wrong CRC is lost and nothing is held; one that needs a
MAC and has none is lost and sets MACF. Out of a field a fragment does nothing; a copy whose next fragment does not come within 16
frames, and no sooner, is lost; what has been held longest is accepted when its 16 frames are up, and no sooner. -/
def Obligations.CopiesAreHeldOrAccepted : Prop :=
  ∀ (s : State) (xs : Vector LavSample 2) (b : Bool) (tag : BitVec 4) (w crc : Nat),
    let l := s.lav
    let d := directiveOf tag w
    let f : List SbCell := [.sy, .sy] ++ cellsOf ([b] ++ natBits 4 tag.toNat ++ natBits 40 w ++ natBits 8 crc)
    let runs := fun (P : Lalvo → Prop) => ∃ t, exec (.fragment f xs) s = .next t ∧ OnlyLalvo s t ∧ t.lav.set = l.set ∧
      t.lav.nvm = l.nvm ∧ P t.lav
    (l.mode = .active → l.link.held = [] → w < 2 ^ 40 → crc < 256 → d.auth = false →
      (crc = crc8 (natBits 40 w) → l.meant d = true → (d.op ≠ 0x3F → l.link.anySeq = true → l.link.lastSeq ≠ d.seq) →
        (l.needsMac d = false →
          (d.op = 0x3F → runs fun t => t.link.judged = l.link.judged ++ [d] ∧ t.link.held = []) ∧
          (d.op ≠ 0x3F → (l.link.stream (!b) tag).lost = false → runs fun t =>
            t.link.held = [{ d := d, copyB := b, since := l.us }] ∧ t.link.judged = l.link.judged) ∧
          (d.op ≠ 0x3F → (l.link.stream (!b) tag).lost = true → runs fun t =>
            t.link.held = [] ∧ t.link.judged = l.link.judged ++ [d] ∧ t.link.lastSeq = d.seq ∧ t.link.remoteAt = l.us ∧
            (d.op = 0x01 → t.link.hasBank = true ∧ t.link.bank = d.bank))) ∧
        (l.needsMac d = true → runs fun t =>
          t.link.held = [] ∧ t.link.judged = l.link.judged ∧ t.link.macf = true ∧ (t.link.stream b tag).lost = true)) ∧
      (crc ≠ crc8 (natBits 40 w) → runs fun t =>
        t.link.held = [] ∧ t.link.judged = l.link.judged ∧ (t.link.stream b tag).lost = true)) ∧
    (l.mode ≠ .active → exec (.fragment f xs) s = .next s) ∧
    ((l.link.stream b tag).bits.isSome = true → l.past (l.link.stream b tag).since 16000 = true →
      ∃ t, exec (.copyTimeout b tag) s = .next t ∧ OnlyLalvo s t ∧
        (t.lav.link.stream b tag).bits = none ∧ (t.lav.link.stream b tag).lost = true ∧ t.lav.set = l.set) ∧
    ((l.link.stream b tag).bits = none ∨ l.past (l.link.stream b tag).since 16000 = false →
      exec (.copyTimeout b tag) s = .next s) ∧
    (∀ h rest, l.link.held = h :: rest → (l.link.anySeq = true → l.link.lastSeq ≠ h.d.seq) →
      (l.link.hasBank = true → l.link.bank = h.d.bank) →
      (l.past h.since 16000 = true → ∃ t, exec .directiveJudgeTimeout s = .next t ∧ OnlyLalvo s t ∧
        t.lav.link.judged = l.link.judged ++ [h.d] ∧ t.lav.link.lastSeq = h.d.seq ∧ (∀ y ∈ t.lav.link.held, y ∈ rest ∧ y ≠ h)) ∧
      (l.past h.since 16000 = false → exec .directiveJudgeTimeout s = .next s)) ∧
    (l.link.held = [] → exec .directiveJudgeTimeout s = .next s)

/-- 09 R311 to R313; 10 Tables 10-1, 10-3, R347 to R352, R357: a dead pass starts at 55 mV of VRECT and no sooner; losing the field
on the way leaves it dead, its start reservoir charged from step 2 on; a node below 2.10 V makes it wait at 2.20 V. From a field it
goes to Hold, Supervise or Shelf by the cell, the load and NAP, or dies where its cell is cut; a second sample without carrier
makes the field new; a carrier or 0.30 V of VRECT wakes it; SUP_TIME, and no less, ends a Supervise that SUP_ARM does not hold; an
under-voltage cut opens the discharge switch in a field, where the converter then holds the node, and leaves only the NVM out of
one. A cell at rest for 10 s anchors the charge; Shelf and Hold subtract what the die draws. -/
def Obligations.PassModesFollowFieldAndCell : Prop :=
  ∀ (s : State) (r : ColdRun) (vrect vcs us edges : Nat) (charge : Int),
    let l := s.lav
    let gives := fun (cmd : Instr) (P : Lalvo → Prop) => ∃ t, exec cmd s = .next t ∧ OnlyLalvo s t ∧ P t.lav
    let asleep := l.mode = .supervise ∨ l.mode = .shelf ∨ l.mode = .hold
    let sample := Instr.supervisionSample edges vcs charge
    (l.mode = .dead → 55 ≤ r.vrect →
      (r.lost = none → 2100 ≤ r.vsys → gives (.coldStart r) fun t => t.mode = .active ∧ t.pol = 1 ∧ t.link.cold = true ∧
        t.set.vtgt = 400 ∧ t.set.tune = t.set.tuneStart ∧ t.chgSw = true ∧ t.disSw = decide (t.vcutMv + 300 ≤ r.vcs) ∧
        t.nvm = l.nvm) ∧
      (r.lost = none → r.vsys < 2100 → gives (.coldStart r) fun t => t.mode = .cold ∧ t.coldStep = 3 ∧ t.nodeSet = 2200 ∧
        t.nvm = l.nvm) ∧
      (∀ k, r.lost = some k → gives (.coldStart r) fun t => t.mode = .dead ∧
        t.startRes = decide (2 ≤ k ∨ (l.startRes = true ∧ r.away ≤ 2000)))) ∧
    (l.mode = .cold → r.lost = none → 2100 ≤ r.vsys → gives (.coldStart r) fun t => t.mode = .active ∧ t.link.cold = true ∧
      t.nvm = l.nvm) ∧
    ((l.mode ≠ .dead ∧ l.mode ≠ .cold) ∨ (l.mode = .dead ∧ r.vrect < 55) → exec (.coldStart r) s = .next s) ∧
    (l.mode = .active → 256 ≤ edges → gives sample fun t => t.mode = .active ∧ t.noCarrier = 0 ∧ t.link = l.link) ∧
    (l.mode = .active → edges < 256 → l.noCarrier ≠ 1 →
      (l.disSw = false → gives sample fun t => t.mode = .dead ∧ t.set = LavSet.reset) ∧
      (l.disSw = true → vcs < l.set.vhold → gives sample fun t => t.mode = .hold ∧ t.loadSw = false ∧ t.pg = false) ∧
      (l.disSw = true → l.set.vhold ≤ vcs → l.nap = false → l.supArm = true ∨ (l.pg = true ∧ l.set.supTime ≠ 0) →
        gives sample fun t => t.mode = .supervise ∧ t.loadSw = !l.prot.noLoad) ∧
      (l.disSw = true → l.set.vhold ≤ vcs → l.nap = true ∨ (l.supArm = false ∧ (l.pg = false ∨ l.set.supTime = 0)) →
        gives sample fun t => t.mode = .shelf ∧ t.loadSw = false)) ∧
    (l.mode = .shelf ∨ l.mode = .hold → edges < 256 → l.noCarrier = 1 → gives sample fun t => t.link.hasHandle = false ∧
      t.link.tagged = false ∧ t.link.hasBank = false ∧ t.link.judged = [] ∧ t.link.remote = false ∧ t.pol = 1 ∧
      t.set.dirRatio = none ∧ t.prot.ocTrips = 0 ∧ t.prot.short = false ∧ t.nvm = l.nvm) ∧
    (asleep → 256 ≤ edges → gives sample fun t => t.mode = .active ∧ t.supArm = false ∧ t.nap = false) ∧
    (l.mode = .dead ∨ l.mode = .cold → exec sample s = .next s) ∧
    (asleep →
      (300 ≤ vrect → gives (.wake vrect us) fun t => t.mode = .active ∧ t.supArm = false ∧ t.nap = false ∧
        t.vrect = min 2400 vrect ∧ t.us = l.us + us) ∧
      (vrect < 300 → exec (.wake vrect us) s = .next s) ∧
      (l.nvBusy = false → vcs < l.vcutMv → gives (.underVoltageCut vcs) fun t => t.mode = .dead ∧ t.nvm = l.nvm ∧
        t.link.handle = 0 ∧ t.qg = 0)) ∧
    (¬ asleep → exec (.wake vrect us) s = .next s) ∧
    (l.vcutMv ≤ vcs → exec (.underVoltageCut vcs) s = .next s) ∧
    (l.mode = .active → l.disSw = true → vcs < l.vcutMv → gives (.underVoltageCut vcs) fun t => t.mode = .active ∧
      t.disSw = false ∧ t.prot.uv = true ∧ t.vcs = vcs ∧ t.nodeSet = max 2200 (l.vloadMv + 300) ∧ t.nvm = l.nvm) ∧
    (l.mode = .supervise → l.supArm = false →
      (l.past l.supAt (1000000 * l.set.supTime) = true → gives .supTimeExpiry fun t => t.mode = .shelf ∧ t.loadSw = false) ∧
      (l.past l.supAt (1000000 * l.set.supTime) = false → exec .supTimeExpiry s = .next s)) ∧
    (l.mode ≠ .supervise ∨ l.supArm = true → exec .supTimeExpiry s = .next s) ∧
    (l.loadSw = true → gives .nap fun t => (l.mode = .supervise → t.mode = .shelf) ∧
      (l.mode ≠ .supervise → t = { l with nap := true })) ∧
    (l.powered = true → l.icell.natAbs < 20 → l.rested = false → l.past l.restAt 10000000 = true →
      gives (.restAnchor vcs) fun t => t.disag = false ∧ t.vcs = vcs ∧ t.mode = l.mode ∧ t.rested = true ∧
        (l.cap ≠ 0 → vcs < 3000 → t.qg = 0) ∧ (l.cap ≠ 0 → 4200 ≤ vcs → t.qg = l.cap)) ∧
    (20 ≤ l.icell.natAbs ∨ l.rested = true ∨ l.past l.restAt 10000000 = false → exec (.restAnchor vcs) s = .next s) ∧
    (l.powered = true → gives .gaugeCompare fun t => t.qg = l.qg ∧
      (l.cap ≠ 0 → 15 * l.cap * 1000000 < 100 * (l.charge - l.voltCharge).natAbs → t.disag = true) ∧
      (l.cap ≠ 0 → 100 * (l.charge - l.voltCharge).natAbs ≤ 10 * l.cap * 1000000 → t.disag = false)) ∧
    (l.mode = .shelf → l.cap ≠ 0 → 26700 ≤ l.charge → l.charge ≤ l.cap * 1000000 →
      gives .gaugeSubtraction fun t => t.charge = l.charge - 26700) ∧
    (l.mode = .hold → l.cap ≠ 0 → 16000 ≤ l.charge → l.charge ≤ l.cap * 1000000 →
      gives .gaugeSubtraction fun t => t.charge = l.charge - 16000)

/-- 09 Tables 9-5, 9-7, 9-9, R311, R321, R325 to R329, R341: in a field a third sample in a row above the over-voltage level opens
the charge switch and 150 mV below it closes again; a system node below 1.50 V takes the die down. Trickle and precharge time out
and a falling current ends CV, each after its time and while the profile runs, and SUP_ARM comes with it under policy 2;
over-currents above their limits pause or open until their fourth trip, which holds; a load short holds the switch open, and
counts alone where an over-current came with it; two temperatures outside a window set its protection; the tracker steps outside
remote mode. -/
def Obligations.PassProtectsItsCell : Prop :=
  ∀ (s : State) (x : LavSample) (t : Int) (uW uA vload : Nat) (i : Int),
    let l := s.lav
    let gives := fun (cmd : Instr) (P : Lalvo → Prop) => ∃ n, exec cmd s = .next n ∧ OnlyLalvo s n ∧ n.lav.nvm = l.nvm ∧
      n.lav.mode = l.mode ∧ P n.lav
    let sampled := fun (P : Lalvo → Prop) => ∃ n, exec (.cellSample x) s = .next n ∧ OnlyLalvo s n ∧ n.lav.mode = .active ∧
      (∀ j : Fin 64, j.val ≠ 12 → j.val ≠ 63 → n.lav.nvm.words[j] = l.nvm.words[j]) ∧ (l.imp = none → n.lav.nvm = l.nvm) ∧
      n.lav.us = l.us + 250 ∧ P n.lav
    (l.mode ≠ .active → exec (.cellSample x) s = .next s) ∧
    (l.mode = .active →
      (x.vsys < 1500 → ∃ n, exec (.cellSample x) s = .next n ∧ OnlyLalvo s n ∧ n.lav.mode = .dead) ∧
      (1500 ≤ x.vsys →
        (l.prot.ov = false → l.ovMv < x.vcs → sampled fun n => n.vcs = x.vcs ∧ n.icell = x.icell ∧
          n.prot.ov = decide (2 ≤ l.prot.ovRun) ∧ (2 ≤ l.prot.ovRun → n.chgSw = false)) ∧
        (l.prot.ov = true → x.vcs + 150 ≤ l.ovMv → sampled fun n => n.prot.ov = false ∧ n.chgSw = true) ∧
        (l.prot.ov = false → x.vcs ≤ l.ovMv → l.charging = true → l.chg = .trickle → 2000 ≤ x.vcs →
          sampled fun n => n.chg = .precharge ∧ n.chgSw = l.chgSw)) ∧
      (l.charging = true → l.chg = .trickle → l.vcs < 1000 → l.counted l.trickleUs 10000000 = true →
        gives .trickleTimeout fun n => n = { l with chg := .failed }) ∧
      (l.charging = true → l.chg = .precharge → l.counted l.preUs 300000000 = true →
        gives .prechargeTimeout fun n => n = { l with chg := .timedOut }) ∧
      (l.charging = true → l.chg = .cv → l.icell < (50 * l.tenth : Nat) → l.counted l.cvUs 1000000 = true →
        gives .cvTermination fun n => n.chg = .done ∧ n.supArm = (l.supArm || l.pol == 2) ∧ n.disag = false) ∧
      (l.prot.ocPause = false → l.prot.ocStop = false → (l.ocLimit : Int) < i → gives (.chargeOverCurrent i) fun n =>
        n.prot.ocTrips = l.prot.ocTrips + 1 ∧ n.prot.ocPause = decide (l.prot.ocTrips < 3) ∧
        n.prot.ocStop = decide (3 ≤ l.prot.ocTrips) ∧ n.prot.ocAt = l.us ∧ n.currentLimit = 0) ∧
      (l.tracks = true → gives (.trackerStep uW) fun n => n.pin = uW ∧ n.trk.pPrev = uW ∧
        (l.trk.low < 15 → l.trk.vtgtPhase = false → n.set.vtgt = l.set.vtgt) ∧
        (2 ≤ uW → n.trk.low = 0)) ∧
      (l.tracks = false → exec (.trackerStep uW) s = .next s)) ∧
    (l.charging = false → exec .trickleTimeout s = .next s ∧ exec .prechargeTimeout s = .next s ∧ exec .cvTermination s = .next s) ∧
    (l.counted l.trickleUs 10000000 = false → exec .trickleTimeout s = .next s) ∧
    (l.counted l.preUs 300000000 = false → exec .prechargeTimeout s = .next s) ∧
    (l.counted l.cvUs 1000000 = false → exec .cvTermination s = .next s) ∧
    (i ≤ (l.ocLimit : Int) → exec (.chargeOverCurrent i) s = .next s) ∧
    (l.past l.prot.ocAt 64000 = true → gives .chargeOcRestart fun n => n = { l with prot := { l.prot with ocPause := false } }) ∧
    (l.past l.prot.ocAt 64000 = false → exec .chargeOcRestart s = .next s) ∧
    (l.loadSw = true → l.docUa < uA → gives (.dischargeOverCurrent uA) fun n => n.loadSw = false ∧
      n.prot.docTrips = (if l.prot.docTrips = 0 ∨ l.past l.prot.docAt 64000000 = true then 1 else l.prot.docTrips + 1) ∧
      n.prot.docOpen = true ∧ n.prot.docAt = l.us ∧ n.prot.docStop = decide (4 ≤ n.prot.docTrips)) ∧
    (uA ≤ l.docUa → exec (.dischargeOverCurrent uA) s = .next s) ∧
    (l.prot.docOpen = true → l.prot.docStop = false →
      (l.past l.prot.docAt 256000 = true → gives .loadSwitchRetry fun n => n.prot.docOpen = false ∧
        n.prot.docTrips = l.prot.docTrips ∧ n.loadSw = n.loadWanted) ∧
      (l.past l.prot.docAt 256000 = false → exec .loadSwitchRetry s = .next s)) ∧
    (2 * vload < l.vloadMv →
      (l.loadSw = true → l.prot.docWas = none → gives (.loadShort vload) fun n => n.loadSw = false ∧ n.prot.short = true ∧
        n.prot.docOpen = l.prot.docOpen ∧ n.prot.docTrips = l.prot.docTrips) ∧
      (∀ m u, l.prot.docWas = some (m, u) → gives (.loadShort vload) fun n => n.loadSw = false ∧ n.prot.short = true ∧
        n.prot.docOpen = false ∧ n.prot.docStop = false ∧ n.prot.docTrips = m ∧ n.prot.docAt = u)) ∧
    (l.vloadMv ≤ 2 * vload → exec (.loadShort vload) s = .next s) ∧
    (l.powered = true → gives (.temperatureSample t) fun n => n.temp = t ∧
      (t < l.chgWin.1 ∨ l.chgWin.2 < t → n.prot.chgT = (l.prot.chgT || decide (1 ≤ l.prot.chgTOut))) ∧
      (l.chgWin.1 ≤ t → t ≤ l.chgWin.2 → l.prot.chgT = false → n.prot.chgT = false))

/-- 10 Tables 10-5, 10-6, R354, R358 to R364; 09 R335, R346: TXM, the envelope and VLOAD's regulation are as their commands leave
them; over I2C, which works with VLOAD on alone, LV_QG_LO anchors the charge until ISSUED is blown, NV_READ gives a word but never
the key, NV_WRITE refuses the fixed words with result 1 and a low system node with 2, and else programs the word, which the
verified end of the write leaves there; APPLY brings the words as written into force. -/
def Obligations.PassPinsAndRegistersAct : Prop :=
  ∀ (s : State) (b : Bool) (w : BitVec 16) (a : Byte),
    let l := s.lav
    let gives := fun (cmd : Instr) (P : Lalvo → Prop) => ∃ t, exec cmd s = .next t ∧ OnlyLalvo s t ∧ P t.lav
    let k := l.nvAddr.toNat
    let fixed := k = 0 ∨ (56 ≤ k ∧ k ≤ 61) ∨ k = 63 ∨ (48 ≤ k ∧ k ≤ 55 ∧ l.nvm.limits = true) ∨ l.nvm.issued = true
    gives (.txmEdge b) (fun t => t = { l with txm := b }) ∧
    gives (.fieldEnvelopeChange b) (fun t => t = { l with envLow := b }) ∧
    gives (.vloadRegulationChange b) (fun t => t = { l with inReg := b && l.loadSw }) ∧
    (l.loadSw = false → exec .nvWrite s = .next s ∧ exec .nvRead s = .next s ∧ exec .nvApply s = .next s ∧
      exec .blowLimits s = .next s ∧ exec .blowIssued s = .next s ∧ exec (.lvQgLoWrite w) s = .next s ∧
      exec (.i2cRegisterWrite a w) s = .next s ∧ exec .nap s = .next s) ∧
    (l.loadSw = true →
      (l.nvm.issued = false → l.cap ≠ 0 → w.toNat + 2 ^ 16 * l.qgHi.toNat ≤ l.cap → gives (.lvQgLoWrite w) fun t =>
        t.qg = w.toNat + 2 ^ 16 * l.qgHi.toNat ∧ t.disag = false) ∧
      (l.nvm.issued = true → exec (.lvQgLoWrite w) s = .next s) ∧
      (gives (.i2cRegisterWrite 0x06 w) fun t => exec (.lvQgLoWrite w) s = .next (withLav s t)) ∧
      (gives (.i2cRegisterWrite 0x18 1) fun t => exec .nap s = .next (withLav s t)) ∧
      (l.nvBusy = true → exec .nvRead s = .next s ∧ exec .nvWrite s = .next s ∧ exec .nvApply s = .next s) ∧
      (l.nvBusy = false →
        (gives (.i2cRegisterWrite 0x20 w) fun t => t = { l with nvAddr := w.extractLsb' 0 6 }) ∧
        (gives (.i2cRegisterWrite 0x21 w) fun t => t = { l with nvData := w }) ∧
        (gives (.i2cRegisterWrite 0x22 2) fun t => exec .nvWrite s = .next (withLav s t)) ∧
        (gives .nvRead fun t => t.nvRes = 0 ∧ t.nvm = l.nvm ∧ t.nvData = if 16 ≤ k ∧ k ≤ 23 then 0 else l.nvm.words[k]!) ∧
        (fixed → gives .nvWrite fun t => t = { l with nvRes := 1 }) ∧
        (¬ fixed → l.vsys < 3300 → gives .nvWrite fun t => t = { l with nvRes := 2 }) ∧
        (¬ fixed → 3300 ≤ l.vsys → nvRangeBad k l.nvData = true → gives .nvWrite fun t => t = { l with nvRes := 6 }) ∧
        (¬ fixed → 3300 ≤ l.vsys → nvRangeBad k l.nvData = false → gives .nvWrite fun t =>
          t = { l with nvBusy := true, nvRes := 0 }) ∧
        (l.nvm.issued = true → gives .nvApply fun t => t = { l with nvRes := 1 }) ∧
        (l.nvm.issued = false → l.asWritten.relations = false → gives .nvApply fun t => t = { l with nvRes := 6 }) ∧
        (l.nvm.issued = false → l.asWritten.relations = true → gives .nvApply fun t => t.nvRes = 0 ∧ t.nvm = l.nvm ∧
          t.set.vhold = l.asWritten.vholdMv ∧ t.set.ichg = max 1 (min (bitsOf (l.asWritten.nv 6) 8 0) l.ichgMax)))) ∧
    (l.nvBusy = true → gives (.nvmWriteComplete true) fun t => t.nvBusy = false ∧ t.nvRes = 0 ∧ t.set = l.set ∧
      (k ≠ 63 → t.nvm.words[k]! = l.nvData) ∧ (∀ j : Fin 64, j.val ≠ k → j.val ≠ 63 → t.nvm.words[j] = l.nvm.words[j]) ∧
      (l.nvmf = false → k = 3 ∨ k = 4 → t.disag = false)) ∧
    (l.nvBusy = true → gives (.nvmWriteComplete false) fun t => t.nvBusy = false ∧ t.nvRes = 3 ∧
      (∀ j : Fin 64, j.val ≠ k → t.nvm.words[j] = l.nvm.words[j])) ∧
    (l.nvBusy = false → exec (.nvmWriteComplete b) s = .next s)

/-- 10 R365 (with Table 10-6, R362): LIMITS blows with 0x4C4D in LV_NVDATA and ISSUED with 0x4953, any other value being refused
with result 4, and ISSUED is refused with result 5 while LIMITS is intact. Over every step, whatever the command, a blown fuse
stays blown, words 0 and 56 to 61 never change, words 48 to 55 not once LIMITS is blown, and no word but the aged mark and the
CRC once ISSUED is; a word being programmed stays one that no fuse has closed (that premise holds at reset, ResetLeaves). -/
def Obligations.PassFusesNeverGoBack : Prop :=
  (∀ (s : State), s.lav.loadSw = true → s.lav.nvBusy = false →
    let l := s.lav
    (l.nvData ≠ 0x4C4D → exec .blowLimits s = .next (withLav s { l with nvRes := 4 })) ∧
    (l.nvData = 0x4C4D → l.asWritten.relations = false → exec .blowLimits s = .next (withLav s { l with nvRes := 6 })) ∧
    (l.nvData = 0x4C4D → l.asWritten.relations = true →
      exec .blowLimits s = .next (withLav s { l with nvm := { l.nvm with limits := true }, nvRes := 0 })) ∧
    (l.nvData ≠ 0x4953 → exec .blowIssued s = .next (withLav s { l with nvRes := 4 })) ∧
    (l.nvData = 0x4953 → l.nvm.limits = false → exec .blowIssued s = .next (withLav s { l with nvRes := 5 })) ∧
    (l.nvData = 0x4953 → l.nvm.limits = true → l.asWritten.relations = false →
      exec .blowIssued s = .next (withLav s { l with nvRes := 6 })) ∧
    (l.nvData = 0x4953 → l.nvm.limits = true → l.asWritten.relations = true →
      exec .blowIssued s = .next (withLav s { l with nvm := { l.nvm with issued := true }, nvRes := 0 }))) ∧
  ∀ (s t : State), NvmOpen s.lav → step s = .next t →
    NvmOpen t.lav ∧ (s.lav.nvm.limits = true → t.lav.nvm.limits = true) ∧
    (s.lav.nvm.issued = true → t.lav.nvm.issued = true) ∧
    ∀ k : Fin 64, k.val = 0 ∨ (56 ≤ k.val ∧ k.val ≤ 61) ∨ (s.lav.nvm.limits = true ∧ 48 ≤ k.val ∧ k.val ≤ 55) ∨
      (s.lav.nvm.issued = true ∧ k.val ≠ 12 ∧ k.val ≠ 63) → t.lav.nvm.words[k] = s.lav.nvm.words[k]

/-- 05 Table 5-5, R169, R188; 11 R394, R404 to R406; 13 R480; 15 Table 15-3: RAIL_SET and RAIL_OT write halves of their pairs, RAIL_OT
only with SHUT at least 10 degrees above WARN as the two would stand; RAIL_KILL voids the pending starts of its rail and leaves its
stop for 16 CCLK on, which turns it off and leaves the other; RAIL_ON, RAIL_OFF, RAIL_RESTART and RAIL_SYNC wait for the tick; a
start is refused with ST_PROTECTED by reservoir hold on the field bus, by VBUS not yet risen and by a latched stage fault, with
ST_STATE in a state that has no start, and RAIL_OFF of the field bus with ST_STATE while a segment is unfurled. -/
def Obligations.RailOperationsCommandTheirRail : Prop :=
  (∀ (s : State) (p : Place) (i : Nat) (o : Op) (e : Entry), Begins s.vx p i o e → o.reservedBad = false →
    let b := begun s.vx p i o e
    let r := o.rail
    let x := b.rail r
    let lo := if o.target = 0 then 200 else 100
    let hi := if o.target = 0 then min 1400 b.fbusMax else 550
    let pd := b.pairPend (.ot r)
    let start := fun (d : Due) => startsRail r d.set
    (o.opcode = 0x1302 →
      ∃ t, exec (.railKill p i) s = .next t ∧ OnlyVexone s t ∧ Leaves t.vx (b.now + 16) (.railKill r) ∧ t.vx.fb = b.fb ∧
        t.vx.ax = b.ax ∧ t.vx.segs = b.segs ∧ t.vx.due = b.due.filter (fun d => !start d) ∧ t.vx.faults = b.faults ∧
        CompletesWith t.vx p 0x00 (bit x.switching + if b.due.any (fun d => start d && (b.dueOp d).isNone) then 0x8000 else 0)) ∧
    (o.cls ≠ .u → b.active.isSome = true → b.declRails.getLsbD o.target = true →
    (o.opcode = 0x1301 → o.halves ≠ 0 → (o.halves % 2 = 1 → lo ≤ o.a 0 15 0 ∧ o.a 0 15 0 ≤ hi) →
      (2 ≤ o.halves → 5 ≤ o.a 0 31 16 ∧ o.a 0 31 16 ≤ 500) →
      exec (.railSet p i) s = .next (withVx s ((b.pairWrite (.railCmd r) (o.half 0 (o.a 0 15 0))
        (o.half 1 (o.a 0 31 16))).finish o e 0x00 0))) ∧
    (o.opcode = 0x1306 → o.halves ≠ 0 → (o.halves % 2 = 1 → 60 ≤ o.a 0 7 0 ∧ o.a 0 7 0 ≤ 150) →
      (2 ≤ o.halves → 70 ≤ o.a 0 15 8 ∧ o.a 0 15 8 ≤ 160) →
      let warn := halfStands (o.half 0 (o.a 0 7 0)) pd.h1 x.warn
      let shut := halfStands (o.half 1 (o.a 0 15 8)) pd.h2 x.shut
      (warn + 10 ≤ shut → exec (.railOt p i) s = .next (withVx s ((b.pairWrite (.ot r)
        (o.half 0 (o.a 0 7 0)) (o.half 1 (o.a 0 15 8))).finish o e 0x00 0))) ∧
      (shut < warn + 10 → exec (.railOt p i) s = .next (withVx s (leavesFailed s.vx p i o e 0x19 0)))) ∧
    (o.opcode = 0x1303 → o.a 0 5 0 ≤ 39 →
      (o.target = 0 → b.res.hold = true →
        exec (.railOn p i) s = .next (withVx s (leavesFailed s.vx p i o e 0x14 0x0B01))) ∧
      ((o.target = 0 → b.res.hold = false) → b.mbus.risen = false →
        exec (.railOn p i) s = .next (withVx s (leavesFailed s.vx p i o e 0x14 0x0807))) ∧
      ((o.target = 0 → b.res.hold = false) → b.mbus.risen = true →
        let bad := b.firstLatched [0x0801, 0x0802, 0x0804, 0x0805, 0x0807] o.target
        (∀ c, bad = some c → exec (.railOn p i) s = .next (withVx s (leavesFailed s.vx p i o e 0x14 c))) ∧
        (bad = none → x.st ≠ .off → x.st ≠ .otShut →
          exec (.railOn p i) s = .next (withVx s (leavesFailed s.vx p i o e 0x13 0))) ∧
        (bad = none → x.st = .off ∨ x.st = .otShut →
          exec (.railOn p i) s = .next (withVx s (leavesDue s.vx p i o e (.railOn r (o.a 0 5 0)) 0))))) ∧
    (o.opcode = 0x1304 → o.a 0 5 0 ≤ 39 →
      (o.target = 0 → b.unfurled ≠ 0 → exec (.railOff p i) s = .next (withVx s (leavesFailed s.vx p i o e 0x13 0))) ∧
      ((o.target = 0 → b.unfurled = 0) →
        (x.st = .off ∨ x.st = .latched ∨ x.st = .otShut →
          exec (.railOff p i) s = .next (withVx s (b.finish o e 0x00 0))) ∧
        (x.st ≠ .off → x.st ≠ .latched → x.st ≠ .otShut →
          exec (.railOff p i) s = .next (withVx s (leavesDue s.vx p i o e (.railOff r (o.a 0 5 0)) 0))))) ∧
    (o.opcode = 0x1305 →
      (∀ c, b.railProt r = some c → exec (.railRestart p i) s = .next (withVx s (leavesFailed s.vx p i o e 0x14 c))) ∧
      (b.railProt r = none → x.st ≠ .latched →
        exec (.railRestart p i) s = .next (withVx s (leavesFailed s.vx p i o e 0x13 0))) ∧
      (b.railProt r = none → x.st = .latched →
        exec (.railRestart p i) s = .next (withVx s (leavesDue s.vx p i o e (.railRestart r) 0)))) ∧
    (o.opcode = 0x1307 → 500 ≤ o.a 0 26 16 → o.a 0 26 16 ≤ 2000 →
      exec (.railSync p i) s = .next (withVx s (leavesDue s.vx p i o e (.railSync r (o.a 0 0 0 = 1) (o.a 0 26 16)) 0))))) ∧
  ∀ (v : Vexone) (r : RailId), (v.runLater (.railKill r)).rail r = (v.rail r).stopped .off ∧
    (∀ q, q ≠ r → (v.runLater (.railKill r)).rail q = v.rail q) ∧ (v.runLater (.railKill r)).segs = v.segs

/-- 11 R384, R386, R387, R390, Table 11-3: RAIL_UPDATE measures the rails of its tracks, and at its last edge one that is on adopts its
effective target and slew; at a slot boundary a switching rail's reference takes one step towards what it adopted, once, or a ramp
down that was asked for begins, and a ramp that lands ends on or off; a delay that is over starts a ramp up from the measured
output; BAL_UPDATE, at its last edge, moves each trim by at most one step and only above its current floor. -/
def Obligations.RailsMoveBySteps : Prop :=
  (∀ (s : State) (i : Nat) (e : Entry) (ed : Edge) (r : RailId) (k : Fin 40) (vfb vax vout : Nat) (mA : Vector Nat 6),
    (Activity s.vx i 0x0201 e → let w := s.vx.atEdge e.start
      ∃ t, exec (.railUpdate i vfb vax) s = .next t ∧ OnlyVexone s t ∧ t.vx.segs = w.segs ∧
      (e.tracks.getLsbD (16 + r.num) = false → t.vx.rail r = w.rail r) ∧
      (e.tracks.getLsbD (16 + r.num) = true → t.vx.rail r = { w.rail r with vout := if r = .fb then vfb else vax } ∧
        Leaves t.vx (w.clk.t0 + e.last) (.adopt r))) ∧
    (Activity s.vx i 0x0202 e → let w := s.vx.atEdge e.start
      ∃ t, exec (.balUpdate i mA) s = .next t ∧ OnlyVexone s t ∧ t.vx.fb = w.fb ∧ t.vx.ax = w.ax ∧
      (e.tracks.getLsbD (16 + r.num) = true → Leaves t.vx (w.clk.t0 + e.last) (.balance r mA))) ∧
    (Ticks s.vx → s.vx.clk.edge ≤ 5424 * k.val →
      let w := s.vx.atEdge (5424 * k.val)
      let x := w.rail r
      let steps := fun (P : Rail → Prop) => ∃ t, exec (.slewStep k r) s = .next t ∧ OnlyVexone s t ∧
        (∀ q, q ≠ r → t.vx.rail q = w.rail q) ∧ t.vx.segs = w.segs ∧ t.vx.motors = w.motors ∧ t.vx.res = w.res ∧
        (t.vx.rail r).stepAt = (if (t.vx.rail r).st = .off then (t.vx.rail r).stepAt else w.now + 1) ∧ P (t.vx.rail r)
      let ref := stepTo x.ref (unitsOf r x.eff) x.aSlew
      (x.switching = false ∨ w.now < x.stepAt → exec (.slewStep k r) s = .next (withVx s w)) ∧
      (x.switching = true → x.stepAt ≤ w.now → x.offPend = true → x.delayTo ≤ w.now →
        steps fun y => y.st = .rampDown ∧ y.eff = 0 ∧ y.ref = x.ref ∧ y.aSlew = x.slew ∧ y.offPend = false) ∧
      (x.switching = true → x.stepAt ≤ w.now → x.offPend = false ∨ w.now < x.delayTo →
        (ref ≠ unitsOf r x.eff → steps fun y => y.ref = ref ∧ y.st = x.st) ∧
        (ref = unitsOf r x.eff → x.st = .rampUp → steps fun y => y.ref = ref ∧ y.st = .on) ∧
        (ref = unitsOf r x.eff → x.st = .rampDown → steps fun y => y.ref = 0 ∧ y.st = .off) ∧
        (ref = unitsOf r x.eff → x.st = .on → steps fun y => y.ref = ref ∧ y.st = .on))) ∧
    (s.vx.alive = true → let w := s.vx.atEdge ed.val
      let x := w.rail r
      (x.st = .delay → x.delayTo ≤ w.now → ∃ t, exec (.railDelayExpiry ed r vout) s = .next t ∧ OnlyVexone s t ∧
        (∀ q, q ≠ r → t.vx.rail q = w.rail q) ∧ t.vx.segs = w.segs ∧ (t.vx.rail r).st = .rampUp ∧
        (t.vx.rail r).ref = 4 * vout ∧ (t.vx.rail r).eff = w.effTarget r ∧ (t.vx.rail r).aSlew = x.slew) ∧
      (x.st ≠ .delay ∨ w.now < x.delayTo → exec (.railDelayExpiry ed r vout) s = .next (withVx s w)))) ∧
  ∀ (v : Vexone) (r : RailId) (mA : Vector Nat 6),
    (let y := (v.runLater (.adopt r)).rail r
     y.ref = (v.rail r).ref ∧ y.st = (v.rail r).st ∧ ((v.rail r).st = .on → y.eff = v.effTarget r ∧ y.aSlew = (v.rail r).slew) ∧
     ((v.rail r).st ≠ .on → v.runLater (.adopt r) = v)) ∧
    (let u := v.runLater (.balance r mA)
     let ps := v.phases r
     let cur := fun (q : Fin 4) => mA.toList.getD (match r with | .fb => q.val | .ax => 4 + q.val) 0
     let sum := (ps.map cur).sum
     let floor := 200 * fld (v.railReg r 0) 23 16 * ps.length
     let sense := fld (v.railReg r 0x0C) 31 24
     (u.rail r).ref = (v.rail r).ref ∧ (u.rail r).st = (v.rail r).st ∧ (sum * sense < floor → u = v) ∧
     (floor ≤ sum * sense → ∀ q : Fin 4,
       (q ∉ ps → (u.rail r).trim[q] = (v.rail r).trim[q]) ∧
       (q ∈ ps → 103 * sum < 100 * (cur q * ps.length) → (u.rail r).trim[q] = max ((v.rail r).trim[q] - 1) (-31)) ∧
       (q ∈ ps → 100 * (cur q * ps.length) < 97 * sum → (u.rail r).trim[q] = min ((v.rail r).trim[q] + 1) 31) ∧
       (q ∈ ps → 97 * sum ≤ 100 * (cur q * ps.length) → 100 * (cur q * ps.length) ≤ 103 * sum →
         (u.rail r).trim[q] = (v.rail r).trim[q])))

/-- 11 R397 to R401, R411, Table 11-4; 01 R41; 16 R551: a peak limit on an enabled phase of a switching rail is only counted, a
negative limit changes nothing kept; an over-current latch-off and a hard short on an enabled phase of a rail that switches or
was stopped in the same CCLK, an output over-voltage and an input under-voltage latch their rails off with their codes, and no
other rail; a truncation is counted; VBUS through 7.0 V ends the under-voltage. A loss of SYNC_IN while a rail follows it latches
0x0106, an edge rate out of range 0x0808 for the rails that follow; a return is followed again; a rail that switches glides, its
clock never jumping. -/
def Obligations.RailProtectionsStopTheirRail : Prop :=
  ∀ (s : State) (e : Edge) (r : RailId) (ph : PhaseId) (vout khz : Nat), s.vx.alive = true →
    let w := s.vx.atEdge e.val
    let x := w.rail r
    let trips := fun (c : Instr) (code : Nat) => ∃ t, exec c s = .next t ∧ OnlyVexone s t ∧ (t.vx.rail r).st = .latched ∧
      (t.vx.rail r).ref = 0 ∧ (t.vx.rail r).tgt = x.tgt ∧ t.vx.latched code r.num = true ∧
      (∀ q, q ≠ r → t.vx.rail q = w.rail q) ∧ t.vx.segs = w.segs ∧ t.vx.motors = w.motors
    let oc := if r = .fb then 0x0801 else 0x0802
    (x.switching = true → w.phaseOn r ph = true → ∃ t, exec (.peakLimit e r ph) s = .next t ∧ OnlyVexone s t ∧
      t.vx.rail r = { x with cnt := vcount x.cnt 0 } ∧ (∀ q, q ≠ r → t.vx.rail q = w.rail q) ∧ t.vx.faults = w.faults) ∧
    (x.switching = false ∨ w.phaseOn r ph = false → exec (.peakLimit e r ph) s = .next (withVx s w)) ∧
    (w.railTripable r = true → w.phaseOn r ph = true → trips (.overCurrentLatchOff e r ph) oc ∧ trips (.hardShort e r ph) oc) ∧
    (w.railTripable r = false ∨ w.phaseOn r ph = false → exec (.overCurrentLatchOff e r ph) s = .next (withVx s w) ∧
      exec (.hardShort e r ph) s = .next (withVx s w)) ∧
    exec (.negativeLimit e r ph) s = .next (withVx s w) ∧
    (x.switching = true → x.ref * (100 + fld (w.railReg r 4) 23 20) ≤ 400 * vout →
      ∃ t, exec (.pulseTruncation e r vout) s = .next t ∧ OnlyVexone s t ∧
        t.vx.rail r = { x with cnt := vcount x.cnt 3, trunc := some w.clk.ticks } ∧ t.vx.faults = w.faults) ∧
    (x.switching = true → x.ref * (100 + 2 * fld (w.railReg r 4) 23 20) ≤ 400 * vout → x.ref + 2000 ≤ 4 * vout →
      trips (.outputOverVoltage e r vout) 0x0805) ∧
    (x.switching = false ∨ 4 * vout < x.ref + 2000 → exec (.outputOverVoltage e r vout) s = .next (withVx s w)) ∧
    (vout < 650 → ∃ t, exec (.inputUnderVoltage e vout) s = .next t ∧ OnlyVexone s t ∧ t.vx.mbus.uvlo = true ∧
      t.vx.mbus.risen = w.mbus.risen ∧
      (w.railTripable r = true → (t.vx.rail r).st = .latched ∧ t.vx.latched 0x0807 r.num = true) ∧
      (w.railTripable r = false → t.vx.rail r = x)) ∧
    (650 ≤ vout → exec (.inputUnderVoltage e vout) s = .next (withVx s w)) ∧
    (700 ≤ vout → ∃ t, exec (.inputUnderVoltageClear e vout) s = .next t ∧ OnlyVexone s t ∧ t.vx.mbus.uvlo = false ∧
      t.vx.mbus.risen = true ∧ t.vx.fb = w.fb ∧ t.vx.ax = w.ax) ∧
    (vout < 700 → exec (.inputUnderVoltageClear e vout) s = .next (withVx s w)) ∧
    (x.syncEn = true → w.clk.syncLost = false → ∃ t, exec (.syncInLoss e) s = .next t ∧ OnlyVexone s t ∧
      t.vx.clk.syncLost = true ∧ t.vx.clk.backup = w.clk.backup ∧ t.vx.latched 0x0106 0 = true ∧ (t.vx.rail r).st = x.st ∧
      t.vx.clockAim r = x.fsw ∧ (x.switching = true → t.vx.railClock r = w.railClock r)) ∧
    (500 ≤ khz → khz ≤ 2000 → ∃ t, exec (.syncInReturn e khz) s = .next t ∧ OnlyVexone s t ∧ t.vx.clk.syncLost = false ∧
      t.vx.clk.syncOut = false ∧ t.vx.clk.syncf = khz ∧ (t.vx.rail r).st = x.st ∧
      (x.syncEn = true → t.vx.clockAim r = khz ∧
        (w.clk.syncGood = false → x.switching = true → t.vx.railClock r = w.railClock r))) ∧
    (250 ≤ khz ∧ khz < 500 ∨ 2000 < khz →
      ∃ t, exec (.syncInOutOfRange e khz) s = .next t ∧ OnlyVexone s t ∧ t.vx.clk.syncOut = true ∧
        t.vx.clk.syncf = min 2047 khz ∧ t.vx.clockAim r = x.fsw ∧ (t.vx.rail r).st = x.st ∧
        (w.clk.syncOut = false → x.syncEn = true → t.vx.latched 0x0808 r.num = true) ∧
        (x.syncEn = true → x.switching = true → t.vx.railClock r = w.railClock r))

/-- 05 Table 5-7, R169, R188, R191; 12 R414, R418, R428, Table 12-2a; 13 R478, R479; 15 Table 15-3: LANE_EGRESS judges those of its
declared lanes that no egress has and leaves the furl of their segments for 16 CCLK on; MOTOR_STOP puts its motor into brake-hold
unless it is disabled or in fault-off, its legs turning 16 CCLK on (an egress lane's move stands, log entry 84); a FLAP_MOVE of an
idle motor that may go there waits for the tick and runs on; the other motion settings wait for the tick, MBUS_OV writes halves of
its pair, and while the egress sequencer is active they are refused with ST_EGRESS. -/
def Obligations.MotionOperationsCommandTheirMotor : Prop :=
  ∀ (s : State) (p : Place) (i : Nat) (o : Op) (e : Entry), Begins s.vx p i o e → o.reservedBad = false →
    let b := begun s.vx p i o e
    let n := o.motor
    let x := b.motors[n]
    let lanes := (o.arg 0).extractLsb' 0 4 &&& b.laneMask
    let failed := fun (st d : Nat) => Host.Outcome.next (φ := Fault) (ρ := Refusal) (withVx s (leavesFailed s.vx p i o e st d))
    (o.opcode = 0x1401 →
      ∃ t late, ∃ new : BitVec 4, exec (.laneEgress p i) s = .next t ∧ OnlyVexone s t ∧
        NewLanes b lanes new ∧
        t.vx.eg.judged = b.eg.judged ||| new ∧ (new ≠ 0 → b.eg.judged = 0 → t.vx.eg.cause = 3) ∧ t.vx.eg.active = b.eg.active ∧
        t.vx.eg.plan = b.eg.plan ∧ t.vx.motors = b.motors ∧ t.vx.segs = b.segs ∧ t.vx.fb = b.fb ∧
        (∀ l : LaneId, new.getLsbD l.val = true → Leaves t.vx (b.now + 16) (.haltFurl (laneSegs l.val))) ∧
        (late = 0 ∨ late = 0x8000) ∧ (b.due = [] → late = 0) ∧ CompletesWith t.vx p 0x00 (countOnes new + late)) ∧
    (o.opcode = 0x1402 →
      ∃ t late, exec (.motorStop p i) s = .next t ∧ OnlyVexone s t ∧ (∀ k : MotorId, k ≠ n → t.vx.motors[k] = b.motors[k]) ∧
        t.vx.segs = b.segs ∧ (late = 0 ∨ late = 0x8000) ∧ (b.due = [] → late = 0) ∧
        CompletesWith t.vx p 0x00 (bit (x.st == .moving) + late) ∧
        (x.st = .disabled ∨ x.st = .faultOff → t.vx.motors[n] = x) ∧
        (x.st ≠ .disabled → x.st ≠ .faultOff → t.vx.motors[n].st = .hold ∧ t.vx.motors[n].pos = x.pos ∧
          ((∀ l, b.egLane n = some l → l.begun = false ∨ l.done = true) → t.vx.motors[n].move = none) ∧
          (∀ l, b.egLane n = some l → l.begun = true → l.done = false → t.vx.motors[n].move = x.move) ∧
          (x.st ≠ .hold → t.vx.legRoles n ≠ b.legRoles n → t.vx.motors[n].turnAt = b.now + 16))) ∧
    (o.cls ≠ .u → b.active.isSome = true →
      (b.eg.active = true → b.declMotors.getLsbD o.target = true →
        ∀ c ∈ [(Instr.motorEnable p i, 0x1403), (.motorDrive p i, 0x1404), (.motorBrake p i, 0x1406), (.motorRelease p i, 0x1407),
          (.chopperSet p i, 0x1409), (.egressDisarm p i, 0x140B)],
          o.opcode = c.2 → exec c.1 s = failed 0x15 0) ∧
      (b.eg.active = false →
        let due := fun (x : Setting) => Host.Outcome.next (φ := Fault) (ρ := Refusal) (withVx s (leavesDue s.vx p i o e x 0))
        (o.opcode = 0x1409 → exec (.chopperSet p i) s = due (.chopperSet (o.a 0 0 0 = 1))) ∧
        (o.opcode = 0x140A →
          ((o.arg 0).extractLsb' 0 4 &&& ~~~b.laneMask = 0 →
            exec (.egressArm p i) s = due (.egressArm ((o.arg 0).extractLsb' 0 4))) ∧
          ((o.arg 0).extractLsb' 0 4 &&& ~~~b.laneMask ≠ 0 → exec (.egressArm p i) s = failed 0x11 0)) ∧
        (o.opcode = 0x140B → exec (.egressDisarm p i) s = due .egressDisarm) ∧
        (o.opcode = 0x1408 → o.halves ≠ 0 →
          (o.halves % 2 = 1 → 40 ≤ o.a 0 7 0 ∧ o.a 0 7 0 ≤ 132 ∧ b.mbusNom < 5 * o.a 0 7 0) →
          (2 ≤ o.halves → 1 ≤ o.a 0 23 16) →
          exec (.mbusOv p i) s = .next (withVx s ((b.pairWrite .mbusOv (o.half 0 (o.a 0 7 0))
            (o.half 1 (o.a 0 23 16))).finish o e 0x00 0))) ∧
        (b.declMotors.getLsbD o.target = true →
          (o.opcode = 0x1403 →
            (o.a 0 0 0 = 1 → x.st = .faultOff → b.latched 0x0901 o.target = true →
              exec (.motorEnable p i) s = failed 0x14 0x0901) ∧
            (o.a 0 0 0 ≠ 1 → x.st = .moving → exec (.motorEnable p i) s = failed 0x13 0) ∧
            ((o.a 0 0 0 = 1 → x.st = .faultOff → b.latched 0x0901 o.target = false) →
              (o.a 0 0 0 ≠ 1 → x.st ≠ .moving ∧ x.st ≠ .faultOff) →
              exec (.motorEnable p i) s = due (.motorEnable n (o.a 0 0 0 = 1)))) ∧
          (o.opcode = 0x1404 →
            (x.st = .hold ∨ x.st = .disabled → exec (.motorDrive p i) s = due (.motorDrive n (o.a 0 4 0) (o.a 0 15 8))) ∧
            (x.st ≠ .hold → x.st ≠ .disabled → exec (.motorDrive p i) s = failed 0x13 0)) ∧
          (o.opcode = 0x1406 → exec (.motorBrake p i) s = due (.motorBrake n)) ∧
          (let bad := b.motorProt o.target [0x0901, 0x0902, 0x0903, 0x0904, 0x0906, 0x090A]
           (o.opcode = 0x1407 → (∀ c, bad = some c → exec (.motorRelease p i) s = failed 0x14 c) ∧
             (bad = none → exec (.motorRelease p i) s = due (.motorRelease n))) ∧
           (o.opcode = 0x1405 → o.a 1 15 0 ≠ 0 → o.a 1 31 16 ≠ 0 → o.a 0 15 0 ≤ b.openMax n →
             (∀ c, bad = some c → exec (.flapMove p i) s = failed 0x14 c) ∧
             (bad = none → x.st ≠ .idle → exec (.flapMove p i) s = failed 0x13 0) ∧
             (bad = none → x.st = .idle → b.motorMode o.target ≠ 2 →
               (b.motorMode o.target = 0 → x.homed = true ∨ o.a 0 15 0 = 0) →
               exec (.flapMove p i) s = .next (withVx s
                 (b.pushDue p (.flapMove n (o.a 0 15 0) (o.a 1 15 0) (o.a 1 31 16))))))))))

/-- 12 R416, R418, R424, R429 to R435, R449, R454, Tables 12-2 to 12-4: of a motor in hall mode, an edge that fits its window and the
next code of its direction counts one position, and one that reaches the target ends the move; at rest the code alone counts; an
invalid code, a second missing edge while it brakes, a start without an edge and a late motion update stop it with its fault, where
no egress lane holds it; a motor short leaves it in fault-off; 64 frames of braking end in brake-hold; an open-loop step moves the
code. A window is judged on the motor as it stands, where no motion update of the same CCLK has gone before (R447). -/
def Obligations.MotorEdgesAndFaults : Prop :=
  ∀ (s : State) (e : Edge) (n : MotorId) (code : BitVec 3) (mv : Move), s.vx.alive = true →
    let w := s.vx.atEdge e.val
    let x := w.motors[n]
    let step := fun (q : Int) => if x.fwd then q + 1 else q - 1
    let gives := fun (c : Instr) (P : State → Motor → Prop) => ∃ t, exec c s = .next t ∧ OnlyVexone s t ∧
      (∀ k : MotorId, k ≠ n → t.vx.motors[k] = w.motors[k]) ∧ t.vx.segs = w.segs ∧ t.vx.fb = w.fb ∧ P t t.vx.motors[n]
    let stops := fun (c : Instr) (f : Nat) => gives c fun t y => y.st = .hold ∧ y.move = none ∧ t.vx.latched f n.val = true ∧
      y.pos = x.pos
    (w.hallMode n = true → code ≠ x.hall →
      (x.st = .disabled → gives (.hallEdge e n code) fun t y => y.hall = code ∧ y.st = x.st ∧ y.pos = x.pos ∧ t.vx.faults = w.faults) ∧
      (x.st = .faultOff → gives (.hallEdge e n code) fun t y => y.hall = code ∧ y.st = x.st ∧ y.pos = x.pos ∧
        (validCode code = false → w.shortNow n = true → t.vx.latched 0x0903 n.val = true)) ∧
      (x.st = .moving → x.move = some mv → mv.openLoop = false → x.window = none → validCode code = true →
        validCode x.expect = true → code = w.codeAfter n x.fwd x.expect →
        (mv.homing = true ∨ (if x.fwd then x.pos + 1 < mv.pos else (mv.pos : Int) < x.pos - 1) →
          gives (.hallEdge e n code) fun _ y => y.st = .moving ∧ y.pos = step x.pos ∧ y.edges = x.edges + 1 ∧ y.hall = code ∧
            y.expect = code ∧ y.tLast = some w.now ∧ y.move = some mv) ∧
        (mv.homing = false → w.egLane n = none → mv.pos = step x.pos →
          gives (.hallEdge e n code) fun t y => y.st = .idle ∧ y.pos = step x.pos ∧ y.move = none ∧
            ∀ p, mv.place = some p → Holds w p → CompletesWith t.vx p 0x00 (twos 16 (step x.pos)))) ∧
      (x.st = .hold ∨ x.st = .idle → x.move = none → validCode code = true → validCode x.hall = true →
        (code = w.codeAfter n true x.hall → gives (.hallEdge e n code) fun _ y => y.pos = x.pos + 1 ∧ y.st = x.st) ∧
        (code = w.codeAfter n false x.hall → gives (.hallEdge e n code) fun _ y => y.pos = x.pos - 1 ∧ y.st = x.st)) ∧
      (x.st ≠ .disabled → x.st ≠ .faultOff → validCode code = false → w.egLane n = none → stops (.hallEdge e n code) 0x0903)) ∧
    (w.hallMode n = false ∨ code = x.hall → exec (.hallEdge e n code) s = .next (withVx s w)) ∧
    (∀ lo hi pred, w.hallMode n = true → x.window = some (lo, hi, pred) → (∀ m, x.move = some m → m.openLoop = false) →
      (∀ u, x.undo = some u → x.updAt = w.now → x.stAt = w.now) →
      (x.st = .moving ∨ x.st = .braking → w.now < hi → exec (.hallWindowClose e n) s = .next (withVx s w)) ∧
      (x.st = .moving ∨ x.st = .braking → hi ≤ w.now → x.extra = false → gives (.hallWindowClose e n) fun _ y =>
        y.pos = step x.pos ∧ y.extra = true ∧ y.st = x.st ∧ y.tLast = some pred) ∧
      (x.st = .braking → hi ≤ w.now → x.extra = true → w.egLane n = none → stops (.hallWindowClose e n) 0x0902) ∧
      (x.st = .moving → hi ≤ w.now → x.extra = true → x.move = some mv → mv.homing = true → mv.place ≠ none → mv.pos = 0 →
        w.egLane n = none → gives (.hallWindowClose e n) fun _ y => y.st = .idle ∧ y.pos = 0 ∧ y.homed = true ∧ y.move = none)) ∧
    (x.st = .moving → x.move = some mv → w.hallMode n = true → mv.openLoop = false → x.edges = 0 →
      (w.now < x.startAt + w.mf n 0x04 31 24 * 216960 → exec (.startTimeout e n) s = .next (withVx s w)) ∧
      (x.startAt + w.mf n 0x04 31 24 * 216960 ≤ w.now → mv.homing = false → w.endZone n < w.toGo n mv.pos true →
        w.egLane n = none → stops (.startTimeout e n) 0x0904)) ∧
    (x.st = .moving → x.updAt + 40 * 5424 ≤ w.now → w.egLane n = none → stops (.motionUpdateTimeout e n) 0x090A) ∧
    (x.st ≠ .moving ∨ w.now < x.updAt + 40 * 5424 → exec (.motionUpdateTimeout e n) s = .next (withVx s w)) ∧
    (x.st = .braking → x.brakeTicks + 64 ≤ w.clk.ticks → gives (.brakingTimeout e n) fun _ y => y.st = .hold ∧ y.pos = x.pos) ∧
    (x.st ≠ .braking ∨ w.clk.ticks < x.brakeTicks + 64 → exec (.brakingTimeout e n) s = .next (withVx s w)) ∧
    (gives (.motorShort e n) fun t y => y.st = .faultOff ∧ y.move = none ∧ y.pos = x.pos ∧ t.vx.latched 0x0901 n.val = true) ∧
    (x.st ≠ .disabled → x.st ≠ .faultOff → gives (.motorBootstrapFault e n) fun t y => y.st = .hold ∧ y.lowHold = true ∧
      y.move = none ∧ t.vx.latched 0x0906 n.val = true) ∧
    (x.st = .disabled ∨ x.st = .faultOff → exec (.motorBootstrapFault e n) s = .next (withVx s w)) ∧
    (x.st = .moving → x.move = some mv → mv.openLoop = true →
      (w.motorMode n.val = 1 → (if x.fwd then x.pos + 1 < mv.pos else (mv.pos : Int) < x.pos - 1) →
        gives (.openLoopStep e n) fun _ y => y.pos = step x.pos ∧ y.expect = w.codeAfter n x.fwd x.expect ∧ y.st = .moving) ∧
      (w.motorMode n.val ≠ 1 → 1 < mv.steps → gives (.openLoopStep e n) fun _ y => y.pos = x.pos ∧ y.st = .moving ∧
        y.expect = w.codeAfter n x.fwd x.expect ∧ y.move = some { mv with steps := mv.steps - 1 })) ∧
    (x.st ≠ .moving → exec (.openLoopStep e n) s = .next (withVx s w) ∧ exec (.startTimeout e n) s = .next (withVx s w))

/-- 12 R423, R426, R427, R437 to R444, R452: at its last edge MOTOR_UPDATE updates the named motors that no egress lane holds, and
EGRESS_STEP the others, carrying on first a move that a stop interrupted (log entry 84); BRAKE_HOLD brakes those that move or idle;
CHOPPER_UPDATE, at its last edge, measures the bus and judges regeneration; the chopper goes high at V_ON where enabled and low
below V_OFF, not within 434 CCLK of going high; an over-voltage of the bus forces it and holds the motors; an egress lane's motor
starts for its plan's position at its start frame, or is done; mode 2 takes its pins. -/
def Obligations.MotorBusAndEgressMove : Prop :=
  (∀ (s : State) (i : Nat) (e : Entry) (ed : Edge) (n : MotorId) (leg : Fin 3) (en q : Bool) (vbus : Nat),
    (let w := s.vx.atEdge e.start
     let x := w.motors[n]
     let leaves := fun (cmd : Instr) (y : Later) => ∃ t, exec cmd s = .next t ∧ OnlyVexone s t ∧ t.vx.segs = w.segs ∧
       t.vx.motors = w.motors ∧ t.vx.mbus = w.mbus ∧ Leaves t.vx (w.clk.t0 + e.last) y
     (Activity s.vx i 0x0301 e → n ∈ e.motors → leaves (.motorUpdate i) (.motion n false)) ∧
     (Activity s.vx i 0x0304 e → n ∈ e.motors → leaves (.egressStep i) (.motion n true)) ∧
     (Activity s.vx i 0x0303 e → leaves (.chopperUpdate i vbus) (.regen vbus)) ∧
     (Activity s.vx i 0x0302 e → ∃ t, exec (.brakeHold i) s = .next t ∧ OnlyVexone s t ∧ t.vx.segs = w.segs ∧ t.vx.mbus = w.mbus ∧
       (n ∉ e.motors ∨ (w.egLane n).isSome = true → t.vx.motors[n] = x) ∧
       (n ∈ e.motors → w.egLane n = none →
         (x.st = .moving ∨ x.st = .idle →
           t.vx.motors[n].st = (if w.fast n then .braking else .hold) ∧ t.vx.motors[n].move = none) ∧
         (x.st ≠ .moving → x.st ≠ .idle → t.vx.motors[n] = x)))) ∧
    (s.vx.alive = true →
      let w := s.vx.atEdge ed.val
      let x := w.motors[n]
      let free := w.egLane n = none
      let gives := fun (cmd : Instr) (P : Vexone → Prop) => ∃ t, exec cmd s = .next t ∧ OnlyVexone s t ∧ P t.vx
      (vbus < w.vOff → gives (.chopperComparator ed vbus) fun t => t.mbus.forced = false ∧ t.motors = w.motors ∧
        (w.mbus.chop = false ∨ w.mbus.chopAt + 434 ≤ w.now → t.mbus.chop = false) ∧
        (w.mbus.chop = true → w.now < w.mbus.chopAt + 434 → t.mbus.chop = true ∧ t.mbus.chopLow = true ∧
          Leaves t (w.mbus.chopAt + 434) .chopLow)) ∧
      (w.vOff ≤ vbus → gives (.chopperComparator ed vbus) fun t => t.mbus.forced = w.mbus.forced ∧ t.motors = w.motors ∧
        t.mbus.vbus = vbus ∧ t.mbus.chop = (w.mbus.chop || (decide (w.vOn ≤ vbus) && w.mbus.chopEn))) ∧
      (50 * w.mbus.thr ≤ vbus → gives (.mbusOverVoltage ed vbus) fun t => t.mbus.chop = true ∧
        t.mbus.forced = true ∧ t.latched 0x0905 0 = true ∧
        (free → x.st = .moving ∨ x.st = .idle ∨ x.st = .braking → t.motors[n].st = .hold ∧ t.motors[n].move = none) ∧
        (¬ free ∨ x.st = .disabled ∨ x.st = .faultOff ∨ x.st = .hold → t.motors[n] = x)) ∧
      (vbus < 50 * w.mbus.thr → exec (.mbusOverVoltage ed vbus) s = .next (withVx s w)) ∧
      (w.motorMode n.val = 2 → gives (.directModePin ed n leg en q) fun t =>
        t.motors[n].pins.getLsbD (2 * leg.val) = en ∧ t.motors[n].pins.getLsbD (2 * leg.val + 1) = q ∧
        (∀ k, k ≠ 2 * leg.val → k ≠ 2 * leg.val + 1 → t.motors[n].pins.getLsbD k = x.pins.getLsbD k) ∧
        ∀ k : MotorId, k ≠ n → t.motors[k] = w.motors[k]) ∧
      (w.motorMode n.val ≠ 2 → exec (.directModePin ed n leg en q) s = .next (withVx s w))) ∧
    (let x := s.vx.motors[n]
     ∀ l, s.vx.alive = true → s.vx.egLane n = some l → l.begun = false → l.done = false →
      (s.vx.clk.ticks < l.start → exec (.egressLaneStart n) s = .next s) ∧
      (l.start ≤ s.vx.clk.ticks → x.st = .hold → s.vx.declMotors.getLsbD n.val = true → x.fallback = false →
        s.vx.motorMode n.val ≠ 2 → (s.vx.motorMode n.val = 0 → x.homed = true) →
        ∃ t l', exec (.egressLaneStart n) s = .next t ∧ OnlyVexone s t ∧ t.vx.egLane n = some l' ∧ l'.begun = true ∧
          (x.pos < s.vx.egPos n → t.vx.motors[n].st = .moving ∧ t.vx.motors[n].fwd = true ∧ l'.done = false ∧
            t.vx.motors[n].move.map (·.pos) = some (s.vx.egPos n)) ∧
          (s.vx.egPos n ≤ x.pos → t.vx.motors[n].st = .hold ∧ l'.done = true)))) ∧
  ∀ (v : Vexone) (n : MotorId) (egress : Bool) (vbus : Nat),
    let x := v.motors[n]
    let u := v.runLater (.motion n egress)
    let y := u.motors[n]
    let r := v.runLater (.regen vbus)
    ((v.egLane n).isSome ≠ egress → u = v) ∧ u.segs = v.segs ∧ (∀ k : MotorId, k ≠ n → u.motors[k] = v.motors[k]) ∧
    ((v.egLane n).isSome = egress → y.updAt = v.now ∧ y.pos = x.pos ∧ y.move = x.move ∧
      (x.st ≠ .braking → x.st ≠ .hold → y.st = x.st) ∧
      (∀ m, x.st = .moving → x.move = some m → m.homing = true → y.vset = v.creep n * 216960) ∧
      (∀ l m, v.egLane n = some l → l.begun = true → l.done = false → x.st = .hold → x.move = some m → y.st = .moving)) ∧
    r.mbus.vbus = vbus ∧ r.mbus.chop = v.mbus.chop ∧ r.motors = v.motors ∧
    (v.regenLevels.1 ≤ 100 * vbus → v.res.on = true → v.resFault = false → r.mbus.regen = true) ∧
    (100 * vbus < v.regenLevels.1 → 100 * vbus < v.regenLevels.2 → r.mbus.regen = false)

/-- 05 Table 5-6, R188; 13 R463, R464, R466, R467, R470, Tables 13-2, 13-4; 15 Table 15-3; 16 R552: CHG_SET, CHG_ON, CHG_OFF and
BAL_SET wait for the tick; CHG_ON is refused with ST_PROTECTED while the cell over-voltage state has not been judged or a reservoir
fault is latched, and with ST_STATE while the charger is on; CHG_KILL leaves the charger's stop for 16 CCLK on. CHG_UPDATE keeps the
pass element off for 224 CCLK and samples after 192: readings, READY, at most three bleeds; a second stack reading at or above 17.28 V
trips. PROT_SCAN trips at a second cell reading at or above 2.88 V. SENSE_DIAG compares its samples, and the first DMA_WINDOW after
its 43,391 CCLK marks the open lines; a stack low for 64 frames latches 0x0A06. -/
def Obligations.ReservoirChargesAndProtects : Prop :=
  (∀ (s : State) (p : Place) (i : Nat) (o : Op) (e : Entry) (ed : Edge) (d : ScanData) (sa sb : Vector Nat 7),
    (Begins s.vx p i o e → o.reservedBad = false →
      let b := begun s.vx p i o e
      let r := b.res
      let on := fun (x : Due) => x.set == .chgOn
      let failed := fun (st d : Nat) => Host.Outcome.next (φ := Fault) (ρ := Refusal) (withVx s (leavesFailed s.vx p i o e st d))
      let due := fun (x : Setting) => Host.Outcome.next (φ := Fault) (ρ := Refusal) (withVx s (leavesDue s.vx p i o e x 0))
      (o.opcode = 0x1604 →
        ∃ t, exec (.chgKill p i) s = .next t ∧ OnlyVexone s t ∧ Leaves t.vx (b.now + 16) .chgKill ∧ t.vx.res = r ∧ t.vx.fb = b.fb ∧
          t.vx.due = b.due.filter (fun x => !on x) ∧
          CompletesWith t.vx p 0x00 (bit r.on + if b.due.any (fun x => on x && (b.dueOp x).isNone) then 0x8000 else 0)) ∧
      (o.cls ≠ .u → b.active.isSome = true → b.declRails.getLsbD 2 = true →
        (o.opcode = 0x1601 → 20 ≤ o.a 0 9 0 → o.a 0 9 0 ≤ 500 → 200 ≤ o.a 0 24 16 → o.a 0 24 16 ≤ 285 →
          exec (.chgSet p i) s = due (.chgSet (o.a 0 9 0) (o.a 0 24 16))) ∧
        (o.opcode = 0x1602 →
          (r.ovInit = true → exec (.chgOn p i) s = failed 0x14 0x0A01) ∧
          (∀ c, r.ovInit = false → resFaults.find? b.anyLatched = some c → exec (.chgOn p i) s = failed 0x14 c) ∧
          (r.ovInit = false → resFaults.find? b.anyLatched = none → r.on = true → exec (.chgOn p i) s = failed 0x13 0) ∧
          (r.ovInit = false → resFaults.find? b.anyLatched = none → r.on = false → exec (.chgOn p i) s = due .chgOn)) ∧
        (o.opcode = 0x1603 → exec (.chgOff p i) s = due .chgOff) ∧
        (o.opcode = 0x1605 → 5 ≤ o.a 0 15 8 → o.a 0 15 8 ≤ 100 →
          exec (.balSet p i) s = due (.balSet (o.a 0 0 0 = 1) (o.a 0 15 8))))) ∧
    (let w := s.vx.atEdge e.start
     let cell := fun (k : Fin 6) => d.lines[k.val + 1] - d.lines[k.val]
     (Activity s.vx i 0x0203 e → ∃ t, exec (.chgUpdate i d) s = .next t ∧ OnlyVexone s t ∧
       t.vx.res = { w.res with offTo := w.clk.t0 + e.start + 224 } ∧ Leaves t.vx (w.clk.t0 + e.start + 192) (.chgSample d)) ∧
     (Activity s.vx i 0x0401 e → ∃ t, exec (.protScan i d) s = .next t ∧ OnlyVexone s t ∧ t.vx.fb.vout = d.vfb ∧
       t.vx.ax.vout = d.vax ∧ t.vx.mbus.vbus = d.vbus ∧ t.vx.segs = w.segs ∧ t.vx.fb.st = w.fb.st ∧
       (∀ k : Fin 6, t.vx.res.cells[k] = cell k) ∧ ((∀ k : Fin 6, cell k < 2850) → t.vx.res.ovInit = false) ∧
       (∀ k : Fin 6, w.res.paired k.val = false → 2880 ≤ cell k → w.res.cellOv.getLsbD k.val = true →
         w.res.ovRead.getLsbD k.val = false → t.vx.res.on = false ∧ t.vx.latched 0x0A01 k.val = true)) ∧
     (Activity s.vx i 0x0204 e → ∃ t, ∃ m : BitVec 7, exec (.senseDiag i sa sb) s = .next t ∧ OnlyVexone s t ∧
       t.vx.res = { w.res with frozen := w.chgTarget, diagTo := w.clk.t0 + e.start + 43391, verdict := some m } ∧
       t.vx.diags = w.diags ∧ ∀ k : Fin 7, m.getLsbD k.val = decide (50 ≤ (sa[k] - sb[k]) + (sb[k] - sa[k]))) ∧
     (∀ m, Activity s.vx i 0x0501 e → w.res.verdict = some m → w.res.diagTo ≤ w.now →
       ∃ t, exec (.dmaWindow i) s = .next t ∧ OnlyVexone s t ∧ t.vx.res.openL = m ∧ t.vx.res.verdict = none ∧
         (∀ k : Fin 7, m.getLsbD k.val = true → t.vx.latched 0x0A03 k.val = true) ∧
         ∀ x ∈ t.vx.diags, ¬ (x.test = 2 ∧ x.unit = 0))) ∧
    (s.vx.alive = true → let w := s.vx.atEdge ed.val
      (w.res.on = true → w.mainsAbsent = false → w.res.stack < w.resMin → 64 ≤ w.res.lowRun →
        ∃ t, exec (.stackLow ed) s = .next t ∧ OnlyVexone s t ∧ t.vx.latched 0x0A06 0 = true ∧ t.vx.res.ready = false ∧
          t.vx.res.on = true) ∧
      (w.res.on = false ∨ w.mainsAbsent = true ∨ w.resMin ≤ w.res.stack ∨ w.res.lowRun < 64 →
        exec (.stackLow ed) s = .next (withVx s w)))) ∧
  ∀ (v : Vexone) (d : ScanData),
    (let u := v.runLater .chgKill
     u.res.on = false ∧ u.res.phase = .off ∧ u.res.cells = v.res.cells ∧ u.res.bleed = v.res.bleed ∧ u.fb = v.fb) ∧
    (let u := v.runLater (.chgSample d)
     u.res.stack = d.isn ∧ u.mbus.vbus = d.vbus ∧ u.res.ready = decide (v.resMin ≤ d.isn) ∧ countOnes u.res.bleed ≤ 3 ∧
     (∀ k : Fin 6, u.res.cells[k] = d.lines[k.val + 1] - d.lines[k.val]) ∧ u.segs = v.segs ∧ u.motors = v.motors ∧
     (17280 ≤ d.isn → v.res.stackOv = true → v.res.ovRead.getLsbD 6 = false → u.res.on = false ∧ u.latched 0x0A01 6 = true))

/-- 13 R473, R474, R476 to R480, R488: a good P_STAT gives the mains its state and ends a lost link; a change from present
latches 0x0B01 or 0x0B02, writes 0 to PRI_ON (at once, log entry 124) and judges egress for the armed lanes alone, whose segments
furl at their crossings; a message that fails its CRC changes nothing. A link lost for 500 us counts as absence with 0x0B04. EGRESS_N
judges the armed lanes once for each time it falls. When every lane is done the sequencer stops, the quiet selection stands, and with
the mains absent reservoir hold turns the field bus off. -/
def Obligations.MainsLossAndEgressEnd : Prop :=
  ∀ (s : State) (e : Edge) (m : PStatMsg) (pk hp : Byte), s.vx.alive = true →
    let w := s.vx.atEdge e.val
    let rep := if m.brownOut then 1 else if m.present then 0 else 2
    let gives := fun (cmd : Instr) (P : Vexone → Prop) => ∃ t, exec cmd s = .next t ∧ OnlyVexone s t ∧ t.vx.fb = w.fb ∧
      t.vx.motors = w.motors ∧ P t.vx
    let judged := fun (t : Vexone) (was : Bool) =>
      (was = false → t.eg.judged = w.eg.judged ∧ t.segs = w.segs) ∧
      (was = true → ∃ new : BitVec 4, NewLanes w w.eg.armed new ∧ t.eg.judged = w.eg.judged ||| new ∧
        ∀ k : SegId, new.getLsbD (laneOf k).val = true → FurlDue t.segs[k])
    (m.good = false → exec (.pStat e m) s = .next (withVx s w)) ∧
    (m.good = true →
      (rep = 0 → w.mains.relink ≠ 0 → gives (.pStat e m) fun t => t.mains.st = w.mains.st ∧ t.mains.lost = false ∧ judged t false) ∧
      ((rep = 0 → w.mains.relink = 0) →
        gives (.pStat e m) fun t => t.mains.st = rep ∧ t.mains.lost = false ∧ t.mains.dc = m.dc ∧ t.mains.priEn = m.priEn ∧
          t.mains.statAt = w.now ∧ judged t (decide (w.mains.st = 0 ∧ rep ≠ 0)) ∧
          (w.mains.seen = false → t.force 0x08E0 = BitVec.ofNat 32 (bit m.priEn)) ∧
          (w.mains.st = 0 → rep ≠ 0 → t.written 0x08E0 = 0 ∧ 0x08E0 ∈ t.regs.fresh) ∧
          (w.mains.st = 0 → rep = 2 → t.latched 0x0B01 0 = true) ∧ (w.mains.st = 0 → rep = 1 → t.latched 0x0B02 0 = true) ∧
          (m.overVoltage = true → w.mains.ov = false → t.latched 0x0B03 0 = true))) ∧
    exec (.pMeas e pk hp false) s = .next (withVx s w) ∧
    (w.mains.relink = 0 → gives (.pMeas e pk hp true) fun t => t.mains.peak = 2 * pk.toNat ∧ t.mains.half = hp.toNat ∧
      t.mains.lost = w.mains.lost ∧ t.mains.st = w.mains.st) ∧
    (w.mains.relink ≠ 0 → w.mains.lost = false → gives (.pMeas e pk hp true) fun t => t.mains.peak = 2 * pk.toNat ∧
      t.mains.relink = (if 115 ≤ 2 * pk.toNat then w.mains.relink - 1 else 16) ∧
      (w.mains.relink = 1 → 115 ≤ 2 * pk.toNat → t.mains.st = 0)) ∧
    (w.mains.lost = true ∨ w.now < w.mains.statAt + 108480 → exec (.barrierLinkLoss e) s = .next (withVx s w)) ∧
    (w.mains.lost = false → w.mains.statAt + 108480 ≤ w.now → gives (.barrierLinkLoss e) fun t => t.mains.lost = true ∧
      t.mainsAbsent = true ∧ t.mains.relink = 16 ∧ t.latched 0x0B04 0 = true ∧ judged t (decide (w.mains.st = 0))) ∧
    (w.eg.nHigh = true → w.eg.armed ≠ 0 → gives (.egressNAssert e) fun t => t.eg.nHigh = false ∧ judged t true ∧
      (w.eg.judged = 0 → t.eg.judged ≠ 0 → t.eg.cause = 2)) ∧
    (w.eg.nHigh = false ∨ w.eg.armed = 0 → exec (.egressNAssert e) s = .next (withVx s w)) ∧
    (gives (.egressNRise e) fun t => t.eg = { w.eg with nHigh := true } ∧ t.segs = w.segs) ∧
    (s.vx.eg.active = false ∨ s.vx.eg.stopDue = false → exec .egressStop s = .next s) ∧
    (s.vx.eg.active = true → s.vx.eg.stopDue = true →
      ∃ t, exec .egressStop s = .next t ∧ OnlyVexone s t ∧ t.vx.eg.active = false ∧ t.vx.eg.plan = [] ∧
        t.vx.sch.quietSel = true ∧ t.vx.sch.run = .quiet ∧ t.vx.ax = s.vx.ax ∧
        (∀ n : MotorId, t.vx.motors[n].st = s.vx.motors[n].st ∧ t.vx.motors[n].pos = s.vx.motors[n].pos) ∧
        (s.vx.mainsAbsent = true → t.vx.res.hold = true ∧ t.vx.fb = s.vx.fb.stopped .off) ∧
        (s.vx.mainsAbsent = false → t.vx.res = s.vx.res ∧ t.vx.fb = s.vx.fb))

/-- 13 R472 to R475, Table 13-5: the primary die keeps, whatever comes, PRI_EN asserted exactly while the mains is present and
the secondary is dark or has given PRI_ON: over every step, whatever the command. -/
def Obligations.PriEnKeepsItsRule : Prop :=
  ∀ s t : State, PriEnHolds s.pri → step s = .next t → PriEnHolds t.pri

/-- 13 R472 to R475, Table 13-5: a good S_CMD gives PRI_ON and ends the dark, 500 us without one begin it; a loss, a brown-out
of a mains that is present and a half-cycle peak of 115 V or more change the state of the mains; an over-voltage is told alone;
at its power-on the mains is absent and PRI_EN deasserted. None touches another die. -/
def Obligations.PrimaryJudgesTheMains : Prop :=
  ∀ (s : State) (on dc : Bool) (peak half : Nat),
    let p := s.pri
    let gives := fun (c : Instr) (P : Primary → Prop) => ∃ t, exec c s = .next t ∧ OnlyPrimary s t ∧ P t.pri
    gives (.sCmd on true) (fun q => q.priOn = on ∧ q.dark = false ∧ q.st = p.st ∧ (q.priEn = true ↔ p.st = .present ∧ on = true)) ∧
    exec (.sCmd on false) s = .next s ∧
    gives .secondaryDark (fun q => q.dark = true ∧ q.st = p.st ∧ (q.priEn = true ↔ p.st = .present)) ∧
    gives .mainsLoss (fun q => q.st = .absent ∧ q.priEn = false ∧ q.ov = false) ∧
    (p.st = .present → gives .mainsBrownOut fun q => q.st = .brownOut ∧ q.priEn = false) ∧
    (p.st ≠ .present → exec .mainsBrownOut s = .next s) ∧
    (115 ≤ peak → gives (.mainsPresent dc peak half) fun q => q.st = .present ∧ q.dc = dc ∧ q.peak = peak ∧
      (dc = true → q.half = 0) ∧ (dc = false → 758 ≤ q.half ∧ q.half ≤ 1111)) ∧
    (peak < 115 → exec (.mainsPresent dc peak half) s = .next s) ∧
    gives .mainsOverVoltage (fun q => q = { p with ov := true }) ∧
    gives .primaryPowerOn (fun q => q.st = .absent ∧ q.priEn = false)

/-- 05 Table 5-8a, R169; 11 Table 11-4; 14 R494, R499 to R506, R509: FAN_ROW writes halves of a row, the other fan and thermistor
settings wait for the tick, and FAN_RESTORE is refused with ST_PROTECTED by the cause that still holds. At its last edge FAN_UPDATE
drives a forced channel at full speed and another by its mode, and none past HOLD_END; a channel that is not declared keeps as it is.
A tach edge is timestamped; the watchdog's emptying forces every declared fan with 0x0C03. At the end of THERM_SCAN a second bad scan
of an input latches 0x0C01, and a second scan at or above SHUT shuts a switching rail down with 0x0804, 16 CCLK on. -/
def Obligations.FansAndThermistorsAct : Prop :=
  (∀ (s : State) (p : Place) (i : Nat) (o : Op) (e : Entry) (ed : Edge) (c : FanId)
    (codes : Vector (BitVec 12) 8) (die : Vector Int 4),
    (Begins s.vx p i o e → o.reservedBad = false → o.cls ≠ .u →
      let b := begun s.vx p i o e
      let due := fun (x : Setting) => Host.Outcome.next (φ := Fault) (ρ := Refusal) (withVx s (leavesDue s.vx p i o e x 0))
      b.active.isSome = true →
      (o.opcode = 0x1505 → o.a 0 15 0 ≠ 1 → exec (.fanWdog p i) s = due (.fanWdog (o.a 0 15 0))) ∧
      (o.opcode = 0x1506 →
        (b.forceCause = none → exec (.fanRestore p i) s = due .fanRestore) ∧
        (∀ f, b.forceCause = some f → exec (.fanRestore p i) s = .next (withVx s (leavesFailed s.vx p i o e 0x14 f)))) ∧
      (o.opcode = 0x1507 → b.declTherms.getLsbD o.target = true → 2000 ≤ o.a 0 15 0 → o.a 0 15 0 ≤ 6000 →
        exec (.thermSet p i) s = due (.thermSet (Fin.ofNat 8 o.target) (o.a 0 15 0))) ∧
      (b.declFans.getLsbD o.target = true →
        (o.opcode = 0x1501 → o.halves ≠ 0 →
          (o.halves % 2 = 1 → -40 ≤ signed 8 (o.a 0 15 8) ∧ signed 8 (o.a 0 15 8) ≤ 125) →
          (2 ≤ o.halves → o.a 0 23 16 ≤ 100) →
          exec (.fanRow p i) s = .next (withVx s ((b.pairWrite (.fanRow o.fan (Fin.ofNat 8 (o.a 0 2 0)))
            (o.half 0 (signed 8 (o.a 0 15 8))) (o.half 1 (o.a 0 23 16))).finish o e 0x00 0))) ∧
        (o.opcode = 0x1502 → o.a 0 1 0 ≠ 3 → o.a 0 15 8 ≤ 100 → (o.arg 0).extractLsb' 16 8 &&& ~~~b.declTherms = 0 →
          exec (.fanMode p i) s = due (.fanMode o.fan (o.a 0 1 0) (o.a 0 15 8) ((o.arg 0).extractLsb' 16 8))) ∧
        (o.opcode = 0x1503 → 1 ≤ o.a 0 4 0 → o.a 0 4 0 ≤ 20 → exec (.fanHyst p i) s = due (.fanHyst o.fan (o.a 0 4 0))) ∧
        (o.opcode = 0x1504 → o.a 0 15 0 ≤ 20000 → 1 ≤ o.a 0 23 16 →
          exec (.fanTach p i) s = due (.fanTach o.fan (o.a 0 15 0) (o.a 0 23 16))))) ∧
    (let w := s.vx.atEdge e.start
     (Activity s.vx i 0x0205 e → ∃ t, exec (.fanUpdate i) s = .next t ∧ OnlyVexone s t ∧ t.vx.fans = w.fans ∧
       (c ∈ e.fans → Leaves t.vx (w.clk.t0 + e.last) (.fanUpdate c))) ∧
     (Activity s.vx i 0x0402 e → ∃ t, exec (.thermScan i codes die) s = .next t ∧ OnlyVexone s t ∧ t.vx.th = w.th ∧
       Leaves t.vx (w.clk.t0 + e.last) (.thermEnd codes die))) ∧
    (s.vx.alive = true → let w := s.vx.atEdge ed.val
      ∃ t, exec (.tachEdge ed c) s = .next t ∧ OnlyVexone s t ∧ t.vx.fans[c].edge1 = some w.now ∧
        t.vx.fans[c].edge2 = w.fans[c].edge1 ∧ ∀ k : FanId, k ≠ c → t.vx.fans[k] = w.fans[k]) ∧
    (s.vx.alive = true → s.vx.fwd.due = true → let w := s.vx.atEdge 16
      ∃ t, exec .fanWatchdogExpiry s = .next t ∧ OnlyVexone s t ∧
        t.vx.fwd.due = false ∧ t.vx.latched 0x0C03 0 = true ∧ t.vx.segs = w.segs ∧
        (w.declFans.getLsbD c.val = true → w.res.low = false → t.vx.fans[c].pin = .duty 100 ∧
          t.vx.fans[c].forced.getLsbD 1 = true)) ∧
    (s.vx.fwd.due = false → exec .fanWatchdogExpiry s = .next s)) ∧
  ∀ (v : Vexone) (c : FanId) (r : RailId) (codes : Vector (BitVec 12) 8) (die : Vector Int 4),
    (let u := v.runLater (.fanUpdate c)
     (v.declFans.getLsbD c.val = false → u = v) ∧
     (v.declFans.getLsbD c.val = true → u.fans[c].forced = v.fans[c].forced ∧ u.fb = v.fb ∧ u.segs = v.segs ∧
       (v.res.low = true → u.fans[c].pin = .low) ∧
       (v.res.low = false →
         (v.fans[c].forced ≠ 0 → u.fans[c].pin = .duty 100) ∧
         (v.fans[c].forced = 0 → v.fans[c].mode = 0 → u.fans[c].pin = .hiZ) ∧
         (v.fans[c].forced = 0 → v.fans[c].mode = 1 →
           u.fans[c].rows = v.fans[c].rows.map (fun x => x.judge (v.control c) v.fans[c].hyst) ∧
           u.fans[c].pin = .duty (tableDuty u.fans[c].rows)) ∧
         (v.fans[c].forced = 0 → v.fans[c].mode = 2 → u.fans[c].pin = .duty v.fans[c].duty)))) ∧
    (let u := v.runLater (.thermEnd codes die)
     u.th.die = die ∧ u.segs = v.segs ∧
     (∀ n : Fin 8, (v.declTherms.getLsbD n.val = false → u.th.ins[n] = v.th.ins[n]) ∧
       (v.declTherms.getLsbD n.val = true → thermBad codes[n].toNat = true → 1 ≤ v.th.ins[n].badRun →
         v.th.ins[n].faulted = false → u.th.ins[n].faulted = true ∧ u.latched 0x0C01 n.val = true)) ∧
     (1 ≤ (v.rail r).shutRun → (∃ k : Fin 4, 8 * ((v.rail r).shut : Int) ≤ die[k]) → Leaves u (v.now + 16) (.otShut r))) ∧
    (let u := v.runLater (.otShut r)
     ((v.rail r).switching = true → (u.rail r).st = .otShut ∧ (u.rail r).ref = 0 ∧ u.latched 0x0804 r.num = true) ∧
     ((v.rail r).st = .latched → (u.rail r).st = .latched ∧ u.latched 0x0804 r.num = true) ∧
     ((v.rail r).switching = false → (v.rail r).st ≠ .latched → u = v))

/-- 16 R557 (with R555, R556): FN_EN, at 0x0048, is the owner's to write, acts when its write completes, keeps its reserved bits
at zero and is 0 at reset; bit n enables the W codes of subsystem 0x0n, and no bit masks an S code: FAULT_N is driven low
exactly while an S code is latched, or a W code whose subsystem's bit is set. -/
def Obligations.FaultNFollowsItsEnables : Prop :=
  State.reset.vx.fnEn = 0 ∧
  (∀ (s : State) (e : Edge) (m : Master) (w : Word), s.vx.alive = true →
    let v := s.vx.accessed e.val m
    (v.isOwner m = true → ∃ t, exec (.registerWrite e m 0x0048 0xF w) s = .next t ∧ OnlyVexone s t ∧
      t.readReg m 0x0048 = w &&& 0x1FFE ∧ (∀ n, 1 ≤ n → n ≤ 12 → t.vx.fnEn.getLsbD n = w.getLsbD n) ∧
      t.vx.faults = v.faults ∧ t.vx.regs = v.regs) ∧
    (v.isOwner m = false → exec (.registerWrite e m 0x0048 0xF w) s = .next (withVx s (v.ignoreWrites 1)))) ∧
  ∀ v : Vexone, v.faultN = true ↔ ∃ f ∈ v.faults, f.mask ≠ 0 ∧
    (faultClass f.code = some .s ∨ (faultClass f.code = some .w ∧ v.fnEn.getLsbD (f.code / 256) = true))

/-- 16 R541 to R543, R551 to R553: the supplies' rise and a dip of them reset the whole secondary die, hold it and set RST_CAUSE,
but neither the key slots nor the other dies; the release, with the level of VIO, lets it run; a held die has no dip. 16 R545 to
R547, Tables 16-1, 16-3: a write of RST_CTRL with the right KEY and GO, from the owner or with the Halyard free, starts a software
reset: after 16 CCLK every segment's furl is due, the rails and the charger are off and the motors hold; after 5,424 the reset is
asserted, RST_CAUSE shows SOFT alone and nothing of the master's is left; 6,448 CCLK after the write a tick opens frame 0 and the die
runs. Meanwhile a write is ignored and a read returns zero. It is refused with fault 0x0309 in egress, in reservoir hold and while
the OTP is programmed; another word does nothing; an observer's write of an owned device is only counted. -/
def Obligations.DeviceResetsLeaveTheInertState : Prop :=
  (∀ (s : State) (vio : Nat),
     (∃ t, exec .powerOnReset s = .next t ∧ OnlyVexone s t ∧ ResetOf s.vx t.vx 1 ∧ t.vx.pw.stage = .held ∧ t.vx.later = []) ∧
     (s.vx.pw.stage ≠ .held → ∃ t, exec .supplyDip s = .next t ∧ OnlyVexone s t ∧ ResetOf s.vx t.vx 2 ∧ t.vx.pw.stage = .held ∧
       t.vx.later = []) ∧
     (s.vx.pw.stage = .held → exec .supplyDip s = .next s) ∧
     (s.vx.pw.stage = .held → exec (.powerOnRelease vio) s =
       .next (withVx s { s.vx with pw := { s.vx.pw with stage := .running, vio33 := decide (2400 ≤ vio) } })) ∧
     (s.vx.pw.stage ≠ .held → exec (.powerOnRelease vio) s = .next s)) ∧
  (∀ (s : State) (e : Edge) (m : Master) (w : Word), s.vx.alive = true →
     let v := s.vx.accessed e.val m
     let write := exec (.softwareReset e m 0xF w) s
     (v.isOwner m = true ∨ v.hal.st = .free → fld w 31 16 = 0xA55A → fld w 0 0 = 1 →
       (v.resetRefused = false → ∃ t, write = .next t ∧ OnlyVexone s t ∧ t.vx.pw.stage = .stopping v.now ∧ t.vx.alive = false ∧
         Leaves t.vx (v.now + 16) .resetStop ∧ Leaves t.vx (v.now + 5424) .resetAssert ∧ SameDrives v t.vx) ∧
       (v.resetRefused = true → ∃ t, write = .next t ∧ OnlyVexone s t ∧
         t.vx.latched 0x0309 m.idx = true ∧ t.vx.segs = v.segs ∧ t.vx.hal.st = v.hal.st ∧ t.vx.regs = v.regs ∧
         t.vx.alive = true)) ∧
     (v.isOwner m = true ∨ v.hal.st = .free → fld w 31 16 ≠ 0xA55A ∨ fld w 0 0 = 0 → write = .next (withVx s v)) ∧
     (v.isOwner m = false → v.hal.st ≠ .free → write = .next (withVx s (v.ignoreWrites 1)))) ∧
  (∀ (s : State) (e : Edge) (m : Master) (a : BitVec 16) (be : BitVec 4) (w : Word) (n : Nat),
     s.vx.pw.stage = .stopping n ∨ s.vx.pw.stage = .inReset n →
     exec (.registerWrite e m a be w) s = .next (withVx s (s.vx.atEdge e.val)) ∧
     exec (.rcFieldRead e m a) s = .next (withVx s ((s.vx.atEdge e.val).put (.regRead m (a.toNat / 4 * 4) 0))) ∧
     (s.vx.clk.ticking = true → ∃ t, exec .tick s = .next t ∧ t.pri = s.pri ∧ t.lav = s.lav ∧ t.vx.clk.edge = 0 ∧
       (s.vx.pw.stage = .inReset n → s.vx.later = [] → t.vx.alive = true ∧ t.vx.clk.frame = 0 ∧ t.vx.clk.t0 = n + 6448 ∧
         t.vx.clk.backup = s.vx.clk.backup))) ∧
  ∀ v : Vexone,
    (let u := v.runLater .resetStop
     AllFurlDue u ∧ u.fb = v.fb.stopped .off ∧ u.ax = v.ax.stopped .off ∧ u.res.on = false ∧ ∀ n : MotorId,
       (v.motors[n].st = .disabled ∨ v.motors[n].st = .faultOff → u.motors[n] = v.motors[n]) ∧
       (v.motors[n].st ≠ .disabled → v.motors[n].st ≠ .faultOff → u.motors[n].st = .hold)) ∧
    (let u := v.runLater .resetAssert
     ResetOf v u 4 ∧ u.alive = false ∧ u.clk.backup = v.clk.backup ∧ u.clk.ticking = v.clk.ticking ∧
     (∀ p : Port, (u.portOf p).linkUp = (v.portOf p).linkUp ∧ (u.portOf p).bme = (v.portOf p).bme))

/-- 04 R155; 16 Table 16-1; 17 R587, R600: a function-level reset and PERST# return the port's master, with its rings, to
reset and leave none of its operations a completion to write; the reset of a function keeps LINK_UP and SPEED and lasts 21,696
CCLK, PERST# takes the link down; at their end the places of what has ended are freed, and the others when they end. A second start
while one lasts changes nothing. 17 R575, R586; 04 R149, R160, R663; 16 R548: a request that the window does not take is answered as
unsupported and writes nothing; configuration writes set the time-out, bus mastering and the MSI-X function mask of their port; a
link change shows in LINK_UP and SPEED; a correctable error is counted. -/
def Obligations.PortsResetAnswerAndRecord : Prop :=
  ∀ (s : State) (e : Edge) (p : Port), s.vx.alive = true →
    let v := s.vx.atEdge e.val
    let x := v.portOf p
    let resets := fun (cmd : Instr) (P : PortState → Prop) => ∃ t, exec cmd s = .next t ∧ OnlyVexone s t ∧
      t.vx.mst p.master = MasterState.reset ∧ (∀ o ∈ t.vx.ops, o.m = p.master → o.orphan = true) ∧ P (t.vx.portOf p)
    let ends := fun (cmd : Instr) (P : PortState → Prop) => ∃ t, exec cmd s = .next t ∧ OnlyVexone s t ∧ P (t.vx.portOf p) ∧
      (∀ o ∈ t.vx.ops, o ∈ v.ops ∧ ¬ (o.m = p.master ∧ o.orphan = true ∧ o.isComplete = true ∧ o.readyAt ≤ v.now + 1)) ∧
      (∀ o ∈ v.ops, o.m = p.master → o.orphan = true → o.isComplete = true → v.now + 1 < o.readyAt →
        Leaves t.vx (o.readyAt - 1) (.orphan o.place o.seq))
    (x.flr = false → x.perst = false → resets (.flrStart e p) fun y => y.flr = true ∧ y.flrTo = v.now + 21696 ∧
      y.linkUp = x.linkUp ∧ y.speed = x.speed ∧ y.aerCe = 0) ∧
    (x.perst = false → resets (.perstAssert e p) fun y => y.perst = true ∧ y.linkUp = false) ∧
    (x.flr = true ∨ x.perst = true → exec (.flrStart e p) s = .next (withVx s v)) ∧
    (x.perst = true → exec (.perstAssert e p) s = .next (withVx s v)) ∧
    (x.flr = true → x.flrTo ≤ v.now → ends (.flrEnd e p) fun y => y.flr = false) ∧
    (x.flr = false ∨ v.now < x.flrTo → exec (.flrEnd e p) s = .next (withVx s v)) ∧
    (x.perst = true → ends (.perstDeassert e p) fun y => y.perst = false) ∧
    (x.perst = false → exec (.perstDeassert e p) s = .next (withVx s v)) ∧
    (∀ k, exec (.unsupportedRequest e p k) s = .next (withVx s { v with out := v.out ++ [.unsupported p] })) ∧
    (∀ k, exec (.configurationWrite e p (.completionTimeout k)) s = .next (withVx s (v.setPort p { x with cto := k }))) ∧
    (∀ b, exec (.configurationWrite e p (.busMaster b)) s = .next (withVx s (v.setPort p { x with bme := b }))) ∧
    (∀ b, exec (.configurationWrite e p (.msixFunctionMask b)) s = .next (withVx s (v.setPort p { x with fmask := b }))) ∧
    (∀ k, exec (.linkStateChange e p k) s = .next (withVx s (v.setPort p { x with linkUp := k != 0, speed := k }))) ∧
    ∃ t, exec (.correctableError e p) s = .next t ∧ OnlyVexone s t ∧ t.vx.ops = v.ops ∧ t.vx.out = v.out ∧
      t.vx.portOf p = { x with aerCe := satTo 65535 (x.aerCe + 1) }

/-- 17 R576, R577; 00 R9, R11, R17, R19: a write of an RW register below 0x1000 (FRM_CTL, RST_CTRL and FN_EN have their own
statements) by the owner is what reads return, in its implemented bits, and waits for its latch: no value in force and no other
register changes; an observer's write of an owned device changes only IGN_WR, whatever it names there; a write that enables no byte
does nothing. 17 R576, Table 17-3; 04 R116: a ring set-up block belongs to its own master: that master's write of a ring's
ENABLE and VECTOR waits for the tick, whoever owns the Halyard, and no other master's write reaches it, not even the
owner's. -/
def Obligations.RegisterWritesReachTheirOwnBlocks : Prop :=
  (∀ (s : State) (e : Edge) (m : Master) (a : BitVec 16) (w : Word), s.vx.alive = true → a.toNat % 4 = 0 → a.toNat < 0x1000 →
     a ≠ 0x0020 → a ≠ 0x0040 → a ≠ 0x0048 →
     let v := s.vx.accessed e.val m
     (v.isOwner m = true → isRw a.toNat = true → ∃ t, exec (.registerWrite e m a 0xF w) s = .next t ∧ OnlyVexone s t ∧
       t.vx.written a.toNat = (resetWord a.toNat &&& ~~~(rwMask a.toNat)) ||| (w &&& rwMask a.toNat) ∧
       (∀ b, b ≠ a.toNat → t.vx.written b = v.written b) ∧ (∀ b, t.vx.force b = v.force b) ∧
       a.toNat ∈ t.vx.regs.fresh ∧ t.vx.segs = v.segs ∧ t.vx.fb = v.fb ∧ t.vx.motors = v.motors ∧
       t.vx.res = v.res ∧ t.vx.hal = v.hal) ∧
     (v.isOwner m = true → isRw a.toNat = false → exec (.registerWrite e m a 0xF w) s = .next (withVx s v)) ∧
     (v.isOwner m = false → exec (.registerWrite e m a 0xF w) s = .next (withVx s (v.ignoreWrites 1))) ∧
     exec (.registerWrite e m a 0x0 w) s = .next (withVx s v)) ∧
  (∀ (s : State) (e : Edge) (m n : Master) (r : Fin 10) (w : Word), s.vx.alive = true →
     let v := s.vx.accessed e.val m
     let a : Nat := ringAddr n.idx r + 0x0C
     (m = n → ∃ t, exec (.registerWrite e m (BitVec.ofNat 16 a) 0xF w) s = .next t ∧ OnlyVexone s t ∧
       t.vx.written a = w &&& 0x8000000F ∧ a ∈ t.vx.regs.fresh ∧ (∀ b, t.vx.force b = v.force b) ∧
       t.vx.hal = v.hal) ∧
     (m ≠ n → ∃ t, exec (.registerWrite e m (BitVec.ofNat 16 a) 0xF w) s = .next t ∧ OnlyVexone s t ∧
       t.vx.regs = v.regs ∧ t.vx.ms = v.ms ∧
       (v.isOwner m = true → t.vx.hal = v.hal) ∧
       (v.isOwner m = false → t.vx.hal.ignWr = satTo 15 (v.hal.ignWr + 1))))

/-- 00 R9, R11, R16, R17; 03 R89; 17 R583, R585: a read carries the register's value at its edge to the master; identity and reserved
addresses read as they are laid out; the owner's read of an RC field sets it to its reset value, with what the hardware adds in that
very CCLK, an observer's leaves it; a read of NOW_OFS keeps the frame number for its own master. -/
def Obligations.ReadsReturnTheRegister : Prop :=
  ∀ (s : State) (e : Edge) (m : Master) (a : BitVec 16), s.vx.alive = true →
    let v := s.vx.accessed e.val m
    (∃ t, exec (.rcFieldRead e m a) s = .next t ∧ OnlyVexone s t ∧
      t.vx.out = v.out ++ [.regRead m (a.toNat / 4 * 4) ((withVx s v).readReg m (a.toNat / 4 * 4))] ∧
      (v.isOwner m = false → t.vx.regs.badFrames = v.regs.badFrames ∧ t.vx.pw = v.pw ∧ t.vx.ms = v.ms ∧
        t.vx.portA = v.portA ∧ t.vx.portB = v.portB) ∧
      (v.isOwner m = true → a = 0x0044 → t.vx.pw.rstCause = 0) ∧
      (v.isOwner m = true → a = 0x1008 → t.vx.regs.badFrames = v.heated 0x1008) ∧
      (v.isOwner m = true → a = 0x1000 → t.vx.portA.aerCe = v.heated 0x1000)) ∧
    (∃ t, exec (.nowOfsRead e m) s = .next t ∧ OnlyVexone s t ∧
      t.vx.out = v.out ++ [.regRead m 0x0030 (BitVec.ofNat 32 v.clk.edge)] ∧
      t.vx.regs.nowFrm[m.idx] = v.clk.frame ∧
      ∀ n : Master, n ≠ m → t.vx.regs.nowFrm[n.idx] = v.regs.nowFrm[n.idx]) ∧
    s.readReg m 0x0000 = 0x0416024D ∧ s.readReg m 0x1300 = 0 ∧ s.readReg m 0x2C00 = 0

/-- 17 R580 to R582, R601 (the edge is that of the rise of the chip select, log entry 97): an SPI frame whose command is neither 0x02
nor 0x0B, or which is too short for a data byte, or whose address is not a multiple of 4, writes nothing, puts nothing on the port
and is counted; the bytes of a write frame are M2's writes of that register and the next, least significant byte first, complete 20
CCLK after the rise and 4 later each; a read frame of four bytes reads its register. A frame that rises in a software reset does
nothing. -/
def Obligations.SpiFramesReachTheWindow : Prop :=
  (∀ (s : State) (e : Edge) (mode3 : Bool) (bytes : List Byte) (spare : Fin 8) (hi lo b0 b1 b2 b3 b4 : Byte),
    let frame := fun (bs : List Byte) => exec (.spiFrame e mode3 bs spare) s
    let a := (hi ++ lo).toNat
    (s.vx.alive = true →
      let v := s.vx.atEdge e.val
      let v3 : Vexone := { v with regs := { v.regs with spiMode3 := mode3 } }
      let full := v3.leave (v.now + 20) (.spiWrite a 0xF (b3 ++ b2 ++ b1 ++ b0))
      let bad := fun (bs : List Byte) => ∃ t, frame bs = .next t ∧ OnlyVexone s t ∧ t.vx.later = v.later ∧ t.vx.out = v.out ∧
        t.vx.regs.wr = v.regs.wr ∧ t.vx.regs.spiMode3 = mode3 ∧ t.vx.regs.badFrames = satTo 65535 (v.regs.badFrames + 1)
      (bytes.length < 4 ∨ (bytes.head? ≠ some 0x02 ∧ bytes.head? ≠ some 0x0B) → bad bytes) ∧
      (bytes.length < 6 → bytes.head? = some 0x0B → bad bytes) ∧
      (lo.toNat % 4 ≠ 0 → bad [0x02, hi, lo, b0, b1, b2, b3] ∧ bad [0x0B, hi, lo, 0, 0, b0, b1, b2, b3]) ∧
      (lo.toNat % 4 = 0 →
        frame [0x02, hi, lo, b0, b1, b2, b3] = .next (withVx s full) ∧
        frame [0x02, hi, lo, b0, b1, b2, b3, b4] =
          .next (withVx s (full.leave (v.now + 24) (.spiWrite ((a + 4) % 65536) 0x1 (b4.zeroExtend 32)))) ∧
        (spare = 0 → ∃ t, frame [0x0B, hi, lo, 0, 0, b0, b1, b2, b3] = .next t ∧ OnlyVexone s t ∧ t.vx.later = v.later ∧
          t.vx.out = v.out ++ [.regRead .m2 a ((withVx s v3).readReg .m2 a)]))) ∧
    (s.vx.alive = false → frame bytes = .next (withVx s (s.vx.idle e.val)))) ∧
  ∀ (s : State) (e : Edge) (a : BitVec 16) (be : BitVec 4) (w : Word), s.vx.alive = true → a.toNat % 4 = 0 →
    exec (.registerWrite e .m2 a be w) s = .next (withVx s ((s.vx.accessed e.val .m2).runLater (.spiWrite a.toNat be w)))

/-- 18 R607, R608, R615 to R618; 04 R147: POCKET_SEL stops each unfurled segment it names, at its crossing where it runs, and selects
its pocket, or skips it where the pocket is not clear; a tooth that fits counts one column in the direction of LIN2, one outside its
window is rejected; the first empty window extrapolates a column, the second in a row loses the carriage; home gives column 0; LIN1
starts and stops the run; an ordinary input takes its level. -/
def Obligations.RacksFollowPocketsAndCarriage : Prop :=
  ∀ (s : State) (i : Nat) (e : Entry) (ed : Edge) (high : Bool) (n : Fin 16),
    (Activity s.vx i 0x0105 e →
      let w := s.vx.atEdge e.start
      let p := (e.param + w.rack.q) % w.pockets
      (w.isRack = false → exec (.pocketSel i) s = .next (withVx s w)) ∧
      (w.isRack = true → ∃ t, exec (.pocketSel i) s = .next t ∧ OnlyVexone s t ∧ ∀ k : SegId,
        let x := w.segs[k]
        let y := t.vx.segs[k]
        (e.segs.getLsbD k.val = false ∨ x.live = false → drive y = drive x ∧ y.sel = x.sel) ∧
        (e.segs.getLsbD k.val = true → x.live = true → (y.phase = .dark ∨ y.stopping = true) ∧
          (w.pocketClear p = false → y.skipped = true ∧ y.sel = x.sel) ∧
          (w.pocketClear p = true → y.skipped = false ∧
            ∃ f, y.sel = some (f, p) ∧ w.clk.t0 + e.start + 80 ≤ f ∧ .pocket f k p ∈ t.vx.out)))) ∧
    (s.vx.alive = true →
      let w := s.vx.atEdge ed.val
      let r := w.rack
      let gives := fun (c : Instr) (P : Rack → Prop) => ∃ t, exec c s = .next t ∧ OnlyVexone s t ∧ t.vx.fb = w.fb ∧
        t.vx.ax = w.ax ∧ t.vx.hal = w.hal ∧ t.vx.motors = w.motors ∧ P t.vx.rack
      (w.conveyor = true → r.homeAt ≠ some w.now → r.lost = false →
        (r.window = none → r.run = true → gives (.tooth ed) fun q => q.k = w.nextColumn ∧ q.teeth = r.teeth + 1 ∧
          q.tLast = some w.now ∧ q.nQual = min 65535 (r.nQual + 1) ∧ q.q = r.q) ∧
        (∀ lo hi, r.window = some (lo, hi) → lo ≤ w.now → w.now ≤ hi → gives (.tooth ed) fun q => q.k = w.nextColumn ∧
          q.teeth = r.teeth + 1 ∧ q.certain = (r.certain || r.extra && r.sure)) ∧
        (∀ lo hi, r.window = some (lo, hi) → w.now < lo ∨ hi < w.now → gives (.tooth ed) fun q => q.k = r.k ∧ q.teeth = r.teeth ∧
          q.nRej = min 65535 (r.nRej + 1))) ∧
      (w.conveyor = false ∨ r.homeAt = some w.now ∨ r.lost = true → exec (.tooth ed) s = .next (withVx s w)) ∧
      (∀ lo hi, w.conveyor = true → r.window = some (lo, hi) → r.run = true → r.lost = false → hi ≤ w.now →
        (r.extra = false → gives (.toothWindowClose ed) fun q => q.k = w.nextColumn ∧ q.certain = false ∧ q.extra = true ∧
          q.lost = false) ∧
        (r.extra = true → gives (.toothWindowClose ed) fun q => q.k = r.k ∧ q.certain = false ∧ q.lost = true)) ∧
      (r.window = none ∨ w.conveyor = false ∨ r.run = false ∨ r.lost = true →
        exec (.toothWindowClose ed) s = .next (withVx s w)) ∧
      (w.conveyor = true → (w.decl.any fun d => d.lins.getLsbD 3) = true → gives (.home ed) fun q => q.k = 0 ∧
        q.certain = true ∧ q.homed = true ∧ q.lost = false ∧ q.q = r.q) ∧
      (w.conveyor = true → (w.decl.any fun d => d.lins.getLsbD 1) = true → r.run ≠ high →
        gives (.conveyorRunEdge ed high) fun q => q.run = high ∧ q.k = r.k ∧ (high = true → q.teeth = 0 ∧ q.tLast = none)) ∧
      (w.lin.getLsbD n.val ≠ high → ∃ t, exec (.laneInputChange ed n high) s = .next t ∧ OnlyVexone s t ∧
        t.vx.lin.getLsbD n.val = high ∧ (∀ k : Nat, k ≠ n.val → t.vx.lin.getLsbD k = w.lin.getLsbD k) ∧
        t.vx.rack = r ∧ t.vx.segs = w.segs) ∧
      (w.lin.getLsbD n.val = high → exec (.laneInputChange ed n high) s = .next (withVx s w)))

/-- 00 section 0.1, R4; 16 R541, R543; 09 R297 (the dies as the spec divides them; one queue and one LAV-12 are the model's,
log entries 3 and 6): a command leaves the queue alone; it acts on one die, the key slots counting as the secondary's; while
the secondary die is held, only the rise and the release of its supplies act on it, and of the rest its ports alone take what
stands on their pins. -/
def Obligations.CommandsActOnOneDie : Prop :=
  ∀ (c : Instr) (s t : State), exec c s = .next t →
    t.pending = s.pending ∧
    ((t.vx = s.vx ∧ t.otp = s.otp) ∨ (t.pri = s.pri ∧ t.lav = s.lav)) ∧ (t.pri = s.pri ∨ t.lav = s.lav) ∧
    (s.vx.pw.stage = .held → c ≠ .powerOnReset → (∀ k, c ≠ .powerOnRelease k) → t.otp = s.otp ∧
      t.vx = { s.vx with portA := t.vx.portA, portB := t.vx.portB, ops := t.vx.ops, later := t.vx.later })

/-- 16 R541 to R543; 01 R24; 07 Table 7-2; 09 Table 9-1; 13 R472; 17 Tables 17-5, 17-6: what reset leaves, in the values that
the spec states; that CCLK waits on the backup clock for the first lock, and the inputs as yet unmeasured, is the model's
choice of a starting point (log entries 8, 12, 13). -/
def Obligations.ResetLeaves : Prop :=
  let v := State.reset.vx
  State.reset.pending = [] ∧ v.alive = true ∧ v.pw.rstCause = 1 ∧ v.active = none ∧ v.img.standby.image = none ∧
  v.img.proof.code = 0 ∧ v.hal.st = .free ∧ v.fwd.armed = false ∧ v.eg.active = false ∧ v.eg.armed = 0 ∧ v.fr.role = 0 ∧
  v.force 0x0010 = 0 ∧ v.fnEn = 0 ∧ v.faultN = false ∧ v.faults = [] ∧ v.later = [] ∧ AllFurled v ∧ v.fb.switching = false ∧
  v.ax.switching = false ∧ (∀ n : MotorId, v.motors[n].st = .disabled) ∧ v.clk.ticking = false ∧ v.written 0x0800 = 0x103C400F ∧
  v.written 0x08D0 = 0x328C5F00 ∧ v.written 0x2008 = 4 ∧ (∀ k : Fin 4, State.reset.otp.slots[k].st = .empty) ∧
  PriEnHolds State.reset.pri ∧ NvmOpen State.reset.lav ∧ State.reset.lav.mode = .dead
end

