-- ==== Sys2Proof/Laws/State.lean ====
section
/-! SUPPORT. What each update of the state leaves of each field: one lemma a field and an update, so that no proof
unfolds a record update. -/

namespace Sys2Proof.Machine

open Sys2Proof


@[simp] theorem Vexone.leave_pw (v : Vexone) (t : Nat) (x : Later) : (v.leave t x).pw = v.pw := rfl
@[simp] theorem Vexone.leave_clk (v : Vexone) (t : Nat) (x : Later) : (v.leave t x).clk = v.clk := rfl
@[simp] theorem Vexone.leave_fr (v : Vexone) (t : Nat) (x : Later) : (v.leave t x).fr = v.fr := rfl
@[simp] theorem Vexone.leave_regs (v : Vexone) (t : Nat) (x : Later) : (v.leave t x).regs = v.regs := rfl
@[simp] theorem Vexone.leave_fnEn (v : Vexone) (t : Nat) (x : Later) : (v.leave t x).fnEn = v.fnEn := rfl
@[simp] theorem Vexone.leave_faults (v : Vexone) (t : Nat) (x : Later) : (v.leave t x).faults = v.faults := rfl
@[simp] theorem Vexone.leave_pairs (v : Vexone) (t : Nat) (x : Later) : (v.leave t x).pairs = v.pairs := rfl
@[simp] theorem Vexone.leave_due (v : Vexone) (t : Nat) (x : Later) : (v.leave t x).due = v.due := rfl
@[simp] theorem Vexone.leave_hal (v : Vexone) (t : Nat) (x : Later) : (v.leave t x).hal = v.hal := rfl
@[simp] theorem Vexone.leave_portA (v : Vexone) (t : Nat) (x : Later) : (v.leave t x).portA = v.portA := rfl
@[simp] theorem Vexone.leave_portB (v : Vexone) (t : Nat) (x : Later) : (v.leave t x).portB = v.portB := rfl
@[simp] theorem Vexone.leave_ms (v : Vexone) (t : Nat) (x : Later) : (v.leave t x).ms = v.ms := rfl
@[simp] theorem Vexone.leave_ops (v : Vexone) (t : Nat) (x : Later) : (v.leave t x).ops = v.ops := rfl
@[simp] theorem Vexone.leave_opSeq (v : Vexone) (t : Nat) (x : Later) : (v.leave t x).opSeq = v.opSeq := rfl
@[simp] theorem Vexone.leave_reads (v : Vexone) (t : Nat) (x : Later) : (v.leave t x).reads = v.reads := rfl
@[simp] theorem Vexone.leave_nextRid (v : Vexone) (t : Nat) (x : Later) : (v.leave t x).nextRid = v.nextRid := rfl
@[simp] theorem Vexone.leave_out (v : Vexone) (t : Nat) (x : Later) : (v.leave t x).out = v.out := rfl
@[simp] theorem Vexone.leave_img (v : Vexone) (t : Nat) (x : Later) : (v.leave t x).img = v.img := rfl
@[simp] theorem Vexone.leave_sch (v : Vexone) (t : Nat) (x : Later) : (v.leave t x).sch = v.sch := rfl
@[simp] theorem Vexone.leave_segs (v : Vexone) (t : Nat) (x : Later) : (v.leave t x).segs = v.segs := rfl
@[simp] theorem Vexone.leave_lanes (v : Vexone) (t : Nat) (x : Later) : (v.leave t x).lanes = v.lanes := rfl
@[simp] theorem Vexone.leave_sess (v : Vexone) (t : Nat) (x : Later) : (v.leave t x).sess = v.sess := rfl
@[simp] theorem Vexone.leave_busCap (v : Vexone) (t : Nat) (x : Later) : (v.leave t x).busCap = v.busCap := rfl
@[simp] theorem Vexone.leave_cx (v : Vexone) (t : Nat) (x : Later) : (v.leave t x).cx = v.cx := rfl
@[simp] theorem Vexone.leave_fb (v : Vexone) (t : Nat) (x : Later) : (v.leave t x).fb = v.fb := rfl
@[simp] theorem Vexone.leave_ax (v : Vexone) (t : Nat) (x : Later) : (v.leave t x).ax = v.ax := rfl
@[simp] theorem Vexone.leave_motors (v : Vexone) (t : Nat) (x : Later) : (v.leave t x).motors = v.motors := rfl
@[simp] theorem Vexone.leave_mbus (v : Vexone) (t : Nat) (x : Later) : (v.leave t x).mbus = v.mbus := rfl
@[simp] theorem Vexone.leave_eg (v : Vexone) (t : Nat) (x : Later) : (v.leave t x).eg = v.eg := rfl
@[simp] theorem Vexone.leave_res (v : Vexone) (t : Nat) (x : Later) : (v.leave t x).res = v.res := rfl
@[simp] theorem Vexone.leave_mains (v : Vexone) (t : Nat) (x : Later) : (v.leave t x).mains = v.mains := rfl
@[simp] theorem Vexone.leave_th (v : Vexone) (t : Nat) (x : Later) : (v.leave t x).th = v.th := rfl
@[simp] theorem Vexone.leave_fans (v : Vexone) (t : Nat) (x : Later) : (v.leave t x).fans = v.fans := rfl
@[simp] theorem Vexone.leave_fwd (v : Vexone) (t : Nat) (x : Later) : (v.leave t x).fwd = v.fwd := rfl
@[simp] theorem Vexone.leave_rack (v : Vexone) (t : Nat) (x : Later) : (v.leave t x).rack = v.rack := rfl
@[simp] theorem Vexone.leave_diags (v : Vexone) (t : Nat) (x : Later) : (v.leave t x).diags = v.diags := rfl
@[simp] theorem Vexone.leave_lin (v : Vexone) (t : Nat) (x : Later) : (v.leave t x).lin = v.lin := rfl
@[simp] theorem Vexone.leave_dcnt (v : Vexone) (t : Nat) (x : Later) : (v.leave t x).dcnt = v.dcnt := rfl
@[simp] theorem Vexone.leave_shown (v : Vexone) (t : Nat) (x : Later) : (v.leave t x).shown = v.shown := rfl
@[simp] theorem Vexone.leave_fresh (v : Vexone) (t : Nat) (x : Later) : (v.leave t x).fresh = v.fresh := rfl

@[simp] theorem Vexone.put_pw (v : Vexone) (o : OutRec) : (v.put o).pw = v.pw := rfl
@[simp] theorem Vexone.put_clk (v : Vexone) (o : OutRec) : (v.put o).clk = v.clk := rfl
@[simp] theorem Vexone.put_fr (v : Vexone) (o : OutRec) : (v.put o).fr = v.fr := rfl
@[simp] theorem Vexone.put_regs (v : Vexone) (o : OutRec) : (v.put o).regs = v.regs := rfl
@[simp] theorem Vexone.put_fnEn (v : Vexone) (o : OutRec) : (v.put o).fnEn = v.fnEn := rfl
@[simp] theorem Vexone.put_faults (v : Vexone) (o : OutRec) : (v.put o).faults = v.faults := rfl
@[simp] theorem Vexone.put_pairs (v : Vexone) (o : OutRec) : (v.put o).pairs = v.pairs := rfl
@[simp] theorem Vexone.put_due (v : Vexone) (o : OutRec) : (v.put o).due = v.due := rfl
@[simp] theorem Vexone.put_hal (v : Vexone) (o : OutRec) : (v.put o).hal = v.hal := rfl
@[simp] theorem Vexone.put_portA (v : Vexone) (o : OutRec) : (v.put o).portA = v.portA := rfl
@[simp] theorem Vexone.put_portB (v : Vexone) (o : OutRec) : (v.put o).portB = v.portB := rfl
@[simp] theorem Vexone.put_ms (v : Vexone) (o : OutRec) : (v.put o).ms = v.ms := rfl
@[simp] theorem Vexone.put_ops (v : Vexone) (o : OutRec) : (v.put o).ops = v.ops := rfl
@[simp] theorem Vexone.put_opSeq (v : Vexone) (o : OutRec) : (v.put o).opSeq = v.opSeq := rfl
@[simp] theorem Vexone.put_reads (v : Vexone) (o : OutRec) : (v.put o).reads = v.reads := rfl
@[simp] theorem Vexone.put_nextRid (v : Vexone) (o : OutRec) : (v.put o).nextRid = v.nextRid := rfl
@[simp] theorem Vexone.put_img (v : Vexone) (o : OutRec) : (v.put o).img = v.img := rfl
@[simp] theorem Vexone.put_sch (v : Vexone) (o : OutRec) : (v.put o).sch = v.sch := rfl
@[simp] theorem Vexone.put_segs (v : Vexone) (o : OutRec) : (v.put o).segs = v.segs := rfl
@[simp] theorem Vexone.put_lanes (v : Vexone) (o : OutRec) : (v.put o).lanes = v.lanes := rfl
@[simp] theorem Vexone.put_sess (v : Vexone) (o : OutRec) : (v.put o).sess = v.sess := rfl
@[simp] theorem Vexone.put_busCap (v : Vexone) (o : OutRec) : (v.put o).busCap = v.busCap := rfl
@[simp] theorem Vexone.put_cx (v : Vexone) (o : OutRec) : (v.put o).cx = v.cx := rfl
@[simp] theorem Vexone.put_fb (v : Vexone) (o : OutRec) : (v.put o).fb = v.fb := rfl
@[simp] theorem Vexone.put_ax (v : Vexone) (o : OutRec) : (v.put o).ax = v.ax := rfl
@[simp] theorem Vexone.put_motors (v : Vexone) (o : OutRec) : (v.put o).motors = v.motors := rfl
@[simp] theorem Vexone.put_mbus (v : Vexone) (o : OutRec) : (v.put o).mbus = v.mbus := rfl
@[simp] theorem Vexone.put_eg (v : Vexone) (o : OutRec) : (v.put o).eg = v.eg := rfl
@[simp] theorem Vexone.put_res (v : Vexone) (o : OutRec) : (v.put o).res = v.res := rfl
@[simp] theorem Vexone.put_mains (v : Vexone) (o : OutRec) : (v.put o).mains = v.mains := rfl
@[simp] theorem Vexone.put_th (v : Vexone) (o : OutRec) : (v.put o).th = v.th := rfl
@[simp] theorem Vexone.put_fans (v : Vexone) (o : OutRec) : (v.put o).fans = v.fans := rfl
@[simp] theorem Vexone.put_fwd (v : Vexone) (o : OutRec) : (v.put o).fwd = v.fwd := rfl
@[simp] theorem Vexone.put_rack (v : Vexone) (o : OutRec) : (v.put o).rack = v.rack := rfl
@[simp] theorem Vexone.put_diags (v : Vexone) (o : OutRec) : (v.put o).diags = v.diags := rfl
@[simp] theorem Vexone.put_lin (v : Vexone) (o : OutRec) : (v.put o).lin = v.lin := rfl
@[simp] theorem Vexone.put_dcnt (v : Vexone) (o : OutRec) : (v.put o).dcnt = v.dcnt := rfl
@[simp] theorem Vexone.put_shown (v : Vexone) (o : OutRec) : (v.put o).shown = v.shown := rfl
@[simp] theorem Vexone.put_later (v : Vexone) (o : OutRec) : (v.put o).later = v.later := rfl
@[simp] theorem Vexone.put_fresh (v : Vexone) (o : OutRec) : (v.put o).fresh = v.fresh := rfl

@[simp] theorem Vexone.draw_pw (v : Vexone) : (v.draw).pw = v.pw := rfl
@[simp] theorem Vexone.draw_clk (v : Vexone) : (v.draw).clk = v.clk := rfl
@[simp] theorem Vexone.draw_fr (v : Vexone) : (v.draw).fr = v.fr := rfl
@[simp] theorem Vexone.draw_regs (v : Vexone) : (v.draw).regs = v.regs := rfl
@[simp] theorem Vexone.draw_fnEn (v : Vexone) : (v.draw).fnEn = v.fnEn := rfl
@[simp] theorem Vexone.draw_faults (v : Vexone) : (v.draw).faults = v.faults := rfl
@[simp] theorem Vexone.draw_pairs (v : Vexone) : (v.draw).pairs = v.pairs := rfl
@[simp] theorem Vexone.draw_due (v : Vexone) : (v.draw).due = v.due := rfl
@[simp] theorem Vexone.draw_hal (v : Vexone) : (v.draw).hal = v.hal := rfl
@[simp] theorem Vexone.draw_portA (v : Vexone) : (v.draw).portA = v.portA := rfl
@[simp] theorem Vexone.draw_portB (v : Vexone) : (v.draw).portB = v.portB := rfl
@[simp] theorem Vexone.draw_ms (v : Vexone) : (v.draw).ms = v.ms := rfl
@[simp] theorem Vexone.draw_ops (v : Vexone) : (v.draw).ops = v.ops := rfl
@[simp] theorem Vexone.draw_opSeq (v : Vexone) : (v.draw).opSeq = v.opSeq := rfl
@[simp] theorem Vexone.draw_reads (v : Vexone) : (v.draw).reads = v.reads := rfl
@[simp] theorem Vexone.draw_nextRid (v : Vexone) : (v.draw).nextRid = v.nextRid := rfl
@[simp] theorem Vexone.draw_out (v : Vexone) : (v.draw).out = v.out := rfl
@[simp] theorem Vexone.draw_img (v : Vexone) : (v.draw).img = v.img := rfl
@[simp] theorem Vexone.draw_sch (v : Vexone) : (v.draw).sch = v.sch := rfl
@[simp] theorem Vexone.draw_segs (v : Vexone) : (v.draw).segs = v.segs := rfl
@[simp] theorem Vexone.draw_lanes (v : Vexone) : (v.draw).lanes = v.lanes := rfl
@[simp] theorem Vexone.draw_sess (v : Vexone) : (v.draw).sess = v.sess := rfl
@[simp] theorem Vexone.draw_busCap (v : Vexone) : (v.draw).busCap = v.busCap := rfl
@[simp] theorem Vexone.draw_cx (v : Vexone) : (v.draw).cx = v.cx := rfl
@[simp] theorem Vexone.draw_fb (v : Vexone) : (v.draw).fb = v.fb := rfl
@[simp] theorem Vexone.draw_ax (v : Vexone) : (v.draw).ax = v.ax := rfl
@[simp] theorem Vexone.draw_motors (v : Vexone) : (v.draw).motors = v.motors := rfl
@[simp] theorem Vexone.draw_mbus (v : Vexone) : (v.draw).mbus = v.mbus := rfl
@[simp] theorem Vexone.draw_eg (v : Vexone) : (v.draw).eg = v.eg := rfl
@[simp] theorem Vexone.draw_res (v : Vexone) : (v.draw).res = v.res := rfl
@[simp] theorem Vexone.draw_mains (v : Vexone) : (v.draw).mains = v.mains := rfl
@[simp] theorem Vexone.draw_th (v : Vexone) : (v.draw).th = v.th := rfl
@[simp] theorem Vexone.draw_fans (v : Vexone) : (v.draw).fans = v.fans := rfl
@[simp] theorem Vexone.draw_fwd (v : Vexone) : (v.draw).fwd = v.fwd := rfl
@[simp] theorem Vexone.draw_rack (v : Vexone) : (v.draw).rack = v.rack := rfl
@[simp] theorem Vexone.draw_diags (v : Vexone) : (v.draw).diags = v.diags := rfl
@[simp] theorem Vexone.draw_lin (v : Vexone) : (v.draw).lin = v.lin := rfl
@[simp] theorem Vexone.draw_dcnt (v : Vexone) : (v.draw).dcnt = v.dcnt := rfl
@[simp] theorem Vexone.draw_shown (v : Vexone) : (v.draw).shown = v.shown := rfl
@[simp] theorem Vexone.draw_later (v : Vexone) : (v.draw).later = v.later := rfl

@[simp] theorem Vexone.pushDue_pw (v : Vexone) (p : Place) (x : Setting) : (v.pushDue p x).pw = v.pw := rfl
@[simp] theorem Vexone.pushDue_clk (v : Vexone) (p : Place) (x : Setting) : (v.pushDue p x).clk = v.clk := rfl
@[simp] theorem Vexone.pushDue_fr (v : Vexone) (p : Place) (x : Setting) : (v.pushDue p x).fr = v.fr := rfl
@[simp] theorem Vexone.pushDue_regs (v : Vexone) (p : Place) (x : Setting) : (v.pushDue p x).regs = v.regs := rfl
@[simp] theorem Vexone.pushDue_fnEn (v : Vexone) (p : Place) (x : Setting) : (v.pushDue p x).fnEn = v.fnEn := rfl
@[simp] theorem Vexone.pushDue_faults (v : Vexone) (p : Place) (x : Setting) : (v.pushDue p x).faults = v.faults := rfl
@[simp] theorem Vexone.pushDue_pairs (v : Vexone) (p : Place) (x : Setting) : (v.pushDue p x).pairs = v.pairs := rfl
@[simp] theorem Vexone.pushDue_hal (v : Vexone) (p : Place) (x : Setting) : (v.pushDue p x).hal = v.hal := rfl
@[simp] theorem Vexone.pushDue_portA (v : Vexone) (p : Place) (x : Setting) : (v.pushDue p x).portA = v.portA := rfl
@[simp] theorem Vexone.pushDue_portB (v : Vexone) (p : Place) (x : Setting) : (v.pushDue p x).portB = v.portB := rfl
@[simp] theorem Vexone.pushDue_ms (v : Vexone) (p : Place) (x : Setting) : (v.pushDue p x).ms = v.ms := rfl
@[simp] theorem Vexone.pushDue_ops (v : Vexone) (p : Place) (x : Setting) : (v.pushDue p x).ops = v.ops := rfl
@[simp] theorem Vexone.pushDue_opSeq (v : Vexone) (p : Place) (x : Setting) : (v.pushDue p x).opSeq = v.opSeq := rfl
@[simp] theorem Vexone.pushDue_reads (v : Vexone) (p : Place) (x : Setting) : (v.pushDue p x).reads = v.reads := rfl
@[simp] theorem Vexone.pushDue_nextRid (v : Vexone) (p : Place) (x : Setting) : (v.pushDue p x).nextRid = v.nextRid := rfl
@[simp] theorem Vexone.pushDue_out (v : Vexone) (p : Place) (x : Setting) : (v.pushDue p x).out = v.out := rfl
@[simp] theorem Vexone.pushDue_img (v : Vexone) (p : Place) (x : Setting) : (v.pushDue p x).img = v.img := rfl
@[simp] theorem Vexone.pushDue_sch (v : Vexone) (p : Place) (x : Setting) : (v.pushDue p x).sch = v.sch := rfl
@[simp] theorem Vexone.pushDue_segs (v : Vexone) (p : Place) (x : Setting) : (v.pushDue p x).segs = v.segs := rfl
@[simp] theorem Vexone.pushDue_lanes (v : Vexone) (p : Place) (x : Setting) : (v.pushDue p x).lanes = v.lanes := rfl
@[simp] theorem Vexone.pushDue_sess (v : Vexone) (p : Place) (x : Setting) : (v.pushDue p x).sess = v.sess := rfl
@[simp] theorem Vexone.pushDue_busCap (v : Vexone) (p : Place) (x : Setting) : (v.pushDue p x).busCap = v.busCap := rfl
@[simp] theorem Vexone.pushDue_cx (v : Vexone) (p : Place) (x : Setting) : (v.pushDue p x).cx = v.cx := rfl
@[simp] theorem Vexone.pushDue_fb (v : Vexone) (p : Place) (x : Setting) : (v.pushDue p x).fb = v.fb := rfl
@[simp] theorem Vexone.pushDue_ax (v : Vexone) (p : Place) (x : Setting) : (v.pushDue p x).ax = v.ax := rfl
@[simp] theorem Vexone.pushDue_motors (v : Vexone) (p : Place) (x : Setting) : (v.pushDue p x).motors = v.motors := rfl
@[simp] theorem Vexone.pushDue_mbus (v : Vexone) (p : Place) (x : Setting) : (v.pushDue p x).mbus = v.mbus := rfl
@[simp] theorem Vexone.pushDue_eg (v : Vexone) (p : Place) (x : Setting) : (v.pushDue p x).eg = v.eg := rfl
@[simp] theorem Vexone.pushDue_res (v : Vexone) (p : Place) (x : Setting) : (v.pushDue p x).res = v.res := rfl
@[simp] theorem Vexone.pushDue_mains (v : Vexone) (p : Place) (x : Setting) : (v.pushDue p x).mains = v.mains := rfl
@[simp] theorem Vexone.pushDue_th (v : Vexone) (p : Place) (x : Setting) : (v.pushDue p x).th = v.th := rfl
@[simp] theorem Vexone.pushDue_fans (v : Vexone) (p : Place) (x : Setting) : (v.pushDue p x).fans = v.fans := rfl
@[simp] theorem Vexone.pushDue_fwd (v : Vexone) (p : Place) (x : Setting) : (v.pushDue p x).fwd = v.fwd := rfl
@[simp] theorem Vexone.pushDue_rack (v : Vexone) (p : Place) (x : Setting) : (v.pushDue p x).rack = v.rack := rfl
@[simp] theorem Vexone.pushDue_diags (v : Vexone) (p : Place) (x : Setting) : (v.pushDue p x).diags = v.diags := rfl
@[simp] theorem Vexone.pushDue_lin (v : Vexone) (p : Place) (x : Setting) : (v.pushDue p x).lin = v.lin := rfl
@[simp] theorem Vexone.pushDue_dcnt (v : Vexone) (p : Place) (x : Setting) : (v.pushDue p x).dcnt = v.dcnt := rfl
@[simp] theorem Vexone.pushDue_shown (v : Vexone) (p : Place) (x : Setting) : (v.pushDue p x).shown = v.shown := rfl
@[simp] theorem Vexone.pushDue_later (v : Vexone) (p : Place) (x : Setting) : (v.pushDue p x).later = v.later := rfl
@[simp] theorem Vexone.pushDue_fresh (v : Vexone) (p : Place) (x : Setting) : (v.pushDue p x).fresh = v.fresh := rfl

@[simp] theorem Vexone.modOp_pw (v : Vexone) (p : Place) (f : Op → Op) : (v.modOp p f).pw = v.pw := rfl
@[simp] theorem Vexone.modOp_clk (v : Vexone) (p : Place) (f : Op → Op) : (v.modOp p f).clk = v.clk := rfl
@[simp] theorem Vexone.modOp_fr (v : Vexone) (p : Place) (f : Op → Op) : (v.modOp p f).fr = v.fr := rfl
@[simp] theorem Vexone.modOp_regs (v : Vexone) (p : Place) (f : Op → Op) : (v.modOp p f).regs = v.regs := rfl
@[simp] theorem Vexone.modOp_fnEn (v : Vexone) (p : Place) (f : Op → Op) : (v.modOp p f).fnEn = v.fnEn := rfl
@[simp] theorem Vexone.modOp_faults (v : Vexone) (p : Place) (f : Op → Op) : (v.modOp p f).faults = v.faults := rfl
@[simp] theorem Vexone.modOp_pairs (v : Vexone) (p : Place) (f : Op → Op) : (v.modOp p f).pairs = v.pairs := rfl
@[simp] theorem Vexone.modOp_due (v : Vexone) (p : Place) (f : Op → Op) : (v.modOp p f).due = v.due := rfl
@[simp] theorem Vexone.modOp_hal (v : Vexone) (p : Place) (f : Op → Op) : (v.modOp p f).hal = v.hal := rfl
@[simp] theorem Vexone.modOp_portA (v : Vexone) (p : Place) (f : Op → Op) : (v.modOp p f).portA = v.portA := rfl
@[simp] theorem Vexone.modOp_portB (v : Vexone) (p : Place) (f : Op → Op) : (v.modOp p f).portB = v.portB := rfl
@[simp] theorem Vexone.modOp_ms (v : Vexone) (p : Place) (f : Op → Op) : (v.modOp p f).ms = v.ms := rfl
@[simp] theorem Vexone.modOp_opSeq (v : Vexone) (p : Place) (f : Op → Op) : (v.modOp p f).opSeq = v.opSeq := rfl
@[simp] theorem Vexone.modOp_reads (v : Vexone) (p : Place) (f : Op → Op) : (v.modOp p f).reads = v.reads := rfl
@[simp] theorem Vexone.modOp_nextRid (v : Vexone) (p : Place) (f : Op → Op) : (v.modOp p f).nextRid = v.nextRid := rfl
@[simp] theorem Vexone.modOp_out (v : Vexone) (p : Place) (f : Op → Op) : (v.modOp p f).out = v.out := rfl
@[simp] theorem Vexone.modOp_img (v : Vexone) (p : Place) (f : Op → Op) : (v.modOp p f).img = v.img := rfl
@[simp] theorem Vexone.modOp_sch (v : Vexone) (p : Place) (f : Op → Op) : (v.modOp p f).sch = v.sch := rfl
@[simp] theorem Vexone.modOp_segs (v : Vexone) (p : Place) (f : Op → Op) : (v.modOp p f).segs = v.segs := rfl
@[simp] theorem Vexone.modOp_lanes (v : Vexone) (p : Place) (f : Op → Op) : (v.modOp p f).lanes = v.lanes := rfl
@[simp] theorem Vexone.modOp_sess (v : Vexone) (p : Place) (f : Op → Op) : (v.modOp p f).sess = v.sess := rfl
@[simp] theorem Vexone.modOp_busCap (v : Vexone) (p : Place) (f : Op → Op) : (v.modOp p f).busCap = v.busCap := rfl
@[simp] theorem Vexone.modOp_cx (v : Vexone) (p : Place) (f : Op → Op) : (v.modOp p f).cx = v.cx := rfl
@[simp] theorem Vexone.modOp_fb (v : Vexone) (p : Place) (f : Op → Op) : (v.modOp p f).fb = v.fb := rfl
@[simp] theorem Vexone.modOp_ax (v : Vexone) (p : Place) (f : Op → Op) : (v.modOp p f).ax = v.ax := rfl
@[simp] theorem Vexone.modOp_motors (v : Vexone) (p : Place) (f : Op → Op) : (v.modOp p f).motors = v.motors := rfl
@[simp] theorem Vexone.modOp_mbus (v : Vexone) (p : Place) (f : Op → Op) : (v.modOp p f).mbus = v.mbus := rfl
@[simp] theorem Vexone.modOp_eg (v : Vexone) (p : Place) (f : Op → Op) : (v.modOp p f).eg = v.eg := rfl
@[simp] theorem Vexone.modOp_res (v : Vexone) (p : Place) (f : Op → Op) : (v.modOp p f).res = v.res := rfl
@[simp] theorem Vexone.modOp_mains (v : Vexone) (p : Place) (f : Op → Op) : (v.modOp p f).mains = v.mains := rfl
@[simp] theorem Vexone.modOp_th (v : Vexone) (p : Place) (f : Op → Op) : (v.modOp p f).th = v.th := rfl
@[simp] theorem Vexone.modOp_fans (v : Vexone) (p : Place) (f : Op → Op) : (v.modOp p f).fans = v.fans := rfl
@[simp] theorem Vexone.modOp_fwd (v : Vexone) (p : Place) (f : Op → Op) : (v.modOp p f).fwd = v.fwd := rfl
@[simp] theorem Vexone.modOp_rack (v : Vexone) (p : Place) (f : Op → Op) : (v.modOp p f).rack = v.rack := rfl
@[simp] theorem Vexone.modOp_diags (v : Vexone) (p : Place) (f : Op → Op) : (v.modOp p f).diags = v.diags := rfl
@[simp] theorem Vexone.modOp_lin (v : Vexone) (p : Place) (f : Op → Op) : (v.modOp p f).lin = v.lin := rfl
@[simp] theorem Vexone.modOp_dcnt (v : Vexone) (p : Place) (f : Op → Op) : (v.modOp p f).dcnt = v.dcnt := rfl
@[simp] theorem Vexone.modOp_shown (v : Vexone) (p : Place) (f : Op → Op) : (v.modOp p f).shown = v.shown := rfl
@[simp] theorem Vexone.modOp_later (v : Vexone) (p : Place) (f : Op → Op) : (v.modOp p f).later = v.later := rfl
@[simp] theorem Vexone.modOp_fresh (v : Vexone) (p : Place) (f : Op → Op) : (v.modOp p f).fresh = v.fresh := rfl

@[simp] theorem Vexone.completeAt_pw (v : Vexone) (p : Place) (st d : Nat) (fr : BitVec 32) (o r : Nat) (b : List Byte) : (v.completeAt p st d fr o r b).pw = v.pw := by unfold Vexone.completeAt; split <;> (try split) <;> rfl
@[simp] theorem Vexone.completeAt_clk (v : Vexone) (p : Place) (st d : Nat) (fr : BitVec 32) (o r : Nat) (b : List Byte) : (v.completeAt p st d fr o r b).clk = v.clk := by unfold Vexone.completeAt; split <;> (try split) <;> rfl
@[simp] theorem Vexone.completeAt_fr (v : Vexone) (p : Place) (st d : Nat) (fr : BitVec 32) (o r : Nat) (b : List Byte) : (v.completeAt p st d fr o r b).fr = v.fr := by unfold Vexone.completeAt; split <;> (try split) <;> rfl
@[simp] theorem Vexone.completeAt_regs (v : Vexone) (p : Place) (st d : Nat) (fr : BitVec 32) (o r : Nat) (b : List Byte) : (v.completeAt p st d fr o r b).regs = v.regs := by unfold Vexone.completeAt; split <;> (try split) <;> rfl
@[simp] theorem Vexone.completeAt_fnEn (v : Vexone) (p : Place) (st d : Nat) (fr : BitVec 32) (o r : Nat) (b : List Byte) : (v.completeAt p st d fr o r b).fnEn = v.fnEn := by unfold Vexone.completeAt; split <;> (try split) <;> rfl
@[simp] theorem Vexone.completeAt_faults (v : Vexone) (p : Place) (st d : Nat) (fr : BitVec 32) (o r : Nat) (b : List Byte) : (v.completeAt p st d fr o r b).faults = v.faults := by unfold Vexone.completeAt; split <;> (try split) <;> rfl
@[simp] theorem Vexone.completeAt_pairs (v : Vexone) (p : Place) (st d : Nat) (fr : BitVec 32) (o r : Nat) (b : List Byte) : (v.completeAt p st d fr o r b).pairs = v.pairs := by unfold Vexone.completeAt; split <;> (try split) <;> rfl
@[simp] theorem Vexone.completeAt_due (v : Vexone) (p : Place) (st d : Nat) (fr : BitVec 32) (o r : Nat) (b : List Byte) : (v.completeAt p st d fr o r b).due = v.due := by unfold Vexone.completeAt; split <;> (try split) <;> rfl
@[simp] theorem Vexone.completeAt_hal (v : Vexone) (p : Place) (st d : Nat) (fr : BitVec 32) (o r : Nat) (b : List Byte) : (v.completeAt p st d fr o r b).hal = v.hal := by unfold Vexone.completeAt; split <;> (try split) <;> rfl
@[simp] theorem Vexone.completeAt_portA (v : Vexone) (p : Place) (st d : Nat) (fr : BitVec 32) (o r : Nat) (b : List Byte) : (v.completeAt p st d fr o r b).portA = v.portA := by unfold Vexone.completeAt; split <;> (try split) <;> rfl
@[simp] theorem Vexone.completeAt_portB (v : Vexone) (p : Place) (st d : Nat) (fr : BitVec 32) (o r : Nat) (b : List Byte) : (v.completeAt p st d fr o r b).portB = v.portB := by unfold Vexone.completeAt; split <;> (try split) <;> rfl
@[simp] theorem Vexone.completeAt_ms (v : Vexone) (p : Place) (st d : Nat) (fr : BitVec 32) (o r : Nat) (b : List Byte) : (v.completeAt p st d fr o r b).ms = v.ms := by unfold Vexone.completeAt; split <;> (try split) <;> rfl
@[simp] theorem Vexone.completeAt_opSeq (v : Vexone) (p : Place) (st d : Nat) (fr : BitVec 32) (o r : Nat) (b : List Byte) : (v.completeAt p st d fr o r b).opSeq = v.opSeq := by unfold Vexone.completeAt; split <;> (try split) <;> rfl
@[simp] theorem Vexone.completeAt_reads (v : Vexone) (p : Place) (st d : Nat) (fr : BitVec 32) (o r : Nat) (b : List Byte) : (v.completeAt p st d fr o r b).reads = v.reads := by unfold Vexone.completeAt; split <;> (try split) <;> rfl
@[simp] theorem Vexone.completeAt_nextRid (v : Vexone) (p : Place) (st d : Nat) (fr : BitVec 32) (o r : Nat) (b : List Byte) : (v.completeAt p st d fr o r b).nextRid = v.nextRid := by unfold Vexone.completeAt; split <;> (try split) <;> rfl
@[simp] theorem Vexone.completeAt_out (v : Vexone) (p : Place) (st d : Nat) (fr : BitVec 32) (o r : Nat) (b : List Byte) : (v.completeAt p st d fr o r b).out = v.out := by unfold Vexone.completeAt; split <;> (try split) <;> rfl
@[simp] theorem Vexone.completeAt_img (v : Vexone) (p : Place) (st d : Nat) (fr : BitVec 32) (o r : Nat) (b : List Byte) : (v.completeAt p st d fr o r b).img = v.img := by unfold Vexone.completeAt; split <;> (try split) <;> rfl
@[simp] theorem Vexone.completeAt_sch (v : Vexone) (p : Place) (st d : Nat) (fr : BitVec 32) (o r : Nat) (b : List Byte) : (v.completeAt p st d fr o r b).sch = v.sch := by unfold Vexone.completeAt; split <;> (try split) <;> rfl
@[simp] theorem Vexone.completeAt_segs (v : Vexone) (p : Place) (st d : Nat) (fr : BitVec 32) (o r : Nat) (b : List Byte) : (v.completeAt p st d fr o r b).segs = v.segs := by unfold Vexone.completeAt; split <;> (try split) <;> rfl
@[simp] theorem Vexone.completeAt_lanes (v : Vexone) (p : Place) (st d : Nat) (fr : BitVec 32) (o r : Nat) (b : List Byte) : (v.completeAt p st d fr o r b).lanes = v.lanes := by unfold Vexone.completeAt; split <;> (try split) <;> rfl
@[simp] theorem Vexone.completeAt_sess (v : Vexone) (p : Place) (st d : Nat) (fr : BitVec 32) (o r : Nat) (b : List Byte) : (v.completeAt p st d fr o r b).sess = v.sess := by unfold Vexone.completeAt; split <;> (try split) <;> rfl
@[simp] theorem Vexone.completeAt_busCap (v : Vexone) (p : Place) (st d : Nat) (fr : BitVec 32) (o r : Nat) (b : List Byte) : (v.completeAt p st d fr o r b).busCap = v.busCap := by unfold Vexone.completeAt; split <;> (try split) <;> rfl
@[simp] theorem Vexone.completeAt_cx (v : Vexone) (p : Place) (st d : Nat) (fr : BitVec 32) (o r : Nat) (b : List Byte) : (v.completeAt p st d fr o r b).cx = v.cx := by unfold Vexone.completeAt; split <;> (try split) <;> rfl
@[simp] theorem Vexone.completeAt_fb (v : Vexone) (p : Place) (st d : Nat) (fr : BitVec 32) (o r : Nat) (b : List Byte) : (v.completeAt p st d fr o r b).fb = v.fb := by unfold Vexone.completeAt; split <;> (try split) <;> rfl
@[simp] theorem Vexone.completeAt_ax (v : Vexone) (p : Place) (st d : Nat) (fr : BitVec 32) (o r : Nat) (b : List Byte) : (v.completeAt p st d fr o r b).ax = v.ax := by unfold Vexone.completeAt; split <;> (try split) <;> rfl
@[simp] theorem Vexone.completeAt_motors (v : Vexone) (p : Place) (st d : Nat) (fr : BitVec 32) (o r : Nat) (b : List Byte) : (v.completeAt p st d fr o r b).motors = v.motors := by unfold Vexone.completeAt; split <;> (try split) <;> rfl
@[simp] theorem Vexone.completeAt_mbus (v : Vexone) (p : Place) (st d : Nat) (fr : BitVec 32) (o r : Nat) (b : List Byte) : (v.completeAt p st d fr o r b).mbus = v.mbus := by unfold Vexone.completeAt; split <;> (try split) <;> rfl
@[simp] theorem Vexone.completeAt_eg (v : Vexone) (p : Place) (st d : Nat) (fr : BitVec 32) (o r : Nat) (b : List Byte) : (v.completeAt p st d fr o r b).eg = v.eg := by unfold Vexone.completeAt; split <;> (try split) <;> rfl
@[simp] theorem Vexone.completeAt_res (v : Vexone) (p : Place) (st d : Nat) (fr : BitVec 32) (o r : Nat) (b : List Byte) : (v.completeAt p st d fr o r b).res = v.res := by unfold Vexone.completeAt; split <;> (try split) <;> rfl
@[simp] theorem Vexone.completeAt_mains (v : Vexone) (p : Place) (st d : Nat) (fr : BitVec 32) (o r : Nat) (b : List Byte) : (v.completeAt p st d fr o r b).mains = v.mains := by unfold Vexone.completeAt; split <;> (try split) <;> rfl
@[simp] theorem Vexone.completeAt_th (v : Vexone) (p : Place) (st d : Nat) (fr : BitVec 32) (o r : Nat) (b : List Byte) : (v.completeAt p st d fr o r b).th = v.th := by unfold Vexone.completeAt; split <;> (try split) <;> rfl
@[simp] theorem Vexone.completeAt_fans (v : Vexone) (p : Place) (st d : Nat) (fr : BitVec 32) (o r : Nat) (b : List Byte) : (v.completeAt p st d fr o r b).fans = v.fans := by unfold Vexone.completeAt; split <;> (try split) <;> rfl
@[simp] theorem Vexone.completeAt_fwd (v : Vexone) (p : Place) (st d : Nat) (fr : BitVec 32) (o r : Nat) (b : List Byte) : (v.completeAt p st d fr o r b).fwd = v.fwd := by unfold Vexone.completeAt; split <;> (try split) <;> rfl
@[simp] theorem Vexone.completeAt_rack (v : Vexone) (p : Place) (st d : Nat) (fr : BitVec 32) (o r : Nat) (b : List Byte) : (v.completeAt p st d fr o r b).rack = v.rack := by unfold Vexone.completeAt; split <;> (try split) <;> rfl
@[simp] theorem Vexone.completeAt_diags (v : Vexone) (p : Place) (st d : Nat) (fr : BitVec 32) (o r : Nat) (b : List Byte) : (v.completeAt p st d fr o r b).diags = v.diags := by unfold Vexone.completeAt; split <;> (try split) <;> rfl
@[simp] theorem Vexone.completeAt_lin (v : Vexone) (p : Place) (st d : Nat) (fr : BitVec 32) (o r : Nat) (b : List Byte) : (v.completeAt p st d fr o r b).lin = v.lin := by unfold Vexone.completeAt; split <;> (try split) <;> rfl
@[simp] theorem Vexone.completeAt_dcnt (v : Vexone) (p : Place) (st d : Nat) (fr : BitVec 32) (o r : Nat) (b : List Byte) : (v.completeAt p st d fr o r b).dcnt = v.dcnt := by unfold Vexone.completeAt; split <;> (try split) <;> rfl
@[simp] theorem Vexone.completeAt_shown (v : Vexone) (p : Place) (st d : Nat) (fr : BitVec 32) (o r : Nat) (b : List Byte) : (v.completeAt p st d fr o r b).shown = v.shown := by unfold Vexone.completeAt; split <;> (try split) <;> rfl
@[simp] theorem Vexone.completeAt_fresh (v : Vexone) (p : Place) (st d : Nat) (fr : BitVec 32) (o r : Nat) (b : List Byte) : (v.completeAt p st d fr o r b).fresh = v.fresh := by unfold Vexone.completeAt; split <;> (try split) <;> rfl

@[simp] theorem Vexone.finish_pw (v : Vexone) (o : Op) (e : Entry) (st d : Nat) (b : List Byte) : (v.finish o e st d b).pw = v.pw := Vexone.completeAt_pw ..
@[simp] theorem Vexone.finish_clk (v : Vexone) (o : Op) (e : Entry) (st d : Nat) (b : List Byte) : (v.finish o e st d b).clk = v.clk := Vexone.completeAt_clk ..
@[simp] theorem Vexone.finish_fr (v : Vexone) (o : Op) (e : Entry) (st d : Nat) (b : List Byte) : (v.finish o e st d b).fr = v.fr := Vexone.completeAt_fr ..
@[simp] theorem Vexone.finish_regs (v : Vexone) (o : Op) (e : Entry) (st d : Nat) (b : List Byte) : (v.finish o e st d b).regs = v.regs := Vexone.completeAt_regs ..
@[simp] theorem Vexone.finish_fnEn (v : Vexone) (o : Op) (e : Entry) (st d : Nat) (b : List Byte) : (v.finish o e st d b).fnEn = v.fnEn := Vexone.completeAt_fnEn ..
@[simp] theorem Vexone.finish_faults (v : Vexone) (o : Op) (e : Entry) (st d : Nat) (b : List Byte) : (v.finish o e st d b).faults = v.faults := Vexone.completeAt_faults ..
@[simp] theorem Vexone.finish_pairs (v : Vexone) (o : Op) (e : Entry) (st d : Nat) (b : List Byte) : (v.finish o e st d b).pairs = v.pairs := Vexone.completeAt_pairs ..
@[simp] theorem Vexone.finish_due (v : Vexone) (o : Op) (e : Entry) (st d : Nat) (b : List Byte) : (v.finish o e st d b).due = v.due := Vexone.completeAt_due ..
@[simp] theorem Vexone.finish_hal (v : Vexone) (o : Op) (e : Entry) (st d : Nat) (b : List Byte) : (v.finish o e st d b).hal = v.hal := Vexone.completeAt_hal ..
@[simp] theorem Vexone.finish_portA (v : Vexone) (o : Op) (e : Entry) (st d : Nat) (b : List Byte) : (v.finish o e st d b).portA = v.portA := Vexone.completeAt_portA ..
@[simp] theorem Vexone.finish_portB (v : Vexone) (o : Op) (e : Entry) (st d : Nat) (b : List Byte) : (v.finish o e st d b).portB = v.portB := Vexone.completeAt_portB ..
@[simp] theorem Vexone.finish_ms (v : Vexone) (o : Op) (e : Entry) (st d : Nat) (b : List Byte) : (v.finish o e st d b).ms = v.ms := Vexone.completeAt_ms ..
@[simp] theorem Vexone.finish_opSeq (v : Vexone) (o : Op) (e : Entry) (st d : Nat) (b : List Byte) : (v.finish o e st d b).opSeq = v.opSeq := Vexone.completeAt_opSeq ..
@[simp] theorem Vexone.finish_reads (v : Vexone) (o : Op) (e : Entry) (st d : Nat) (b : List Byte) : (v.finish o e st d b).reads = v.reads := Vexone.completeAt_reads ..
@[simp] theorem Vexone.finish_nextRid (v : Vexone) (o : Op) (e : Entry) (st d : Nat) (b : List Byte) : (v.finish o e st d b).nextRid = v.nextRid := Vexone.completeAt_nextRid ..
@[simp] theorem Vexone.finish_out (v : Vexone) (o : Op) (e : Entry) (st d : Nat) (b : List Byte) : (v.finish o e st d b).out = v.out := Vexone.completeAt_out ..
@[simp] theorem Vexone.finish_img (v : Vexone) (o : Op) (e : Entry) (st d : Nat) (b : List Byte) : (v.finish o e st d b).img = v.img := Vexone.completeAt_img ..
@[simp] theorem Vexone.finish_sch (v : Vexone) (o : Op) (e : Entry) (st d : Nat) (b : List Byte) : (v.finish o e st d b).sch = v.sch := Vexone.completeAt_sch ..
@[simp] theorem Vexone.finish_segs (v : Vexone) (o : Op) (e : Entry) (st d : Nat) (b : List Byte) : (v.finish o e st d b).segs = v.segs := Vexone.completeAt_segs ..
@[simp] theorem Vexone.finish_lanes (v : Vexone) (o : Op) (e : Entry) (st d : Nat) (b : List Byte) : (v.finish o e st d b).lanes = v.lanes := Vexone.completeAt_lanes ..
@[simp] theorem Vexone.finish_sess (v : Vexone) (o : Op) (e : Entry) (st d : Nat) (b : List Byte) : (v.finish o e st d b).sess = v.sess := Vexone.completeAt_sess ..
@[simp] theorem Vexone.finish_busCap (v : Vexone) (o : Op) (e : Entry) (st d : Nat) (b : List Byte) : (v.finish o e st d b).busCap = v.busCap := Vexone.completeAt_busCap ..
@[simp] theorem Vexone.finish_cx (v : Vexone) (o : Op) (e : Entry) (st d : Nat) (b : List Byte) : (v.finish o e st d b).cx = v.cx := Vexone.completeAt_cx ..
@[simp] theorem Vexone.finish_fb (v : Vexone) (o : Op) (e : Entry) (st d : Nat) (b : List Byte) : (v.finish o e st d b).fb = v.fb := Vexone.completeAt_fb ..
@[simp] theorem Vexone.finish_ax (v : Vexone) (o : Op) (e : Entry) (st d : Nat) (b : List Byte) : (v.finish o e st d b).ax = v.ax := Vexone.completeAt_ax ..
@[simp] theorem Vexone.finish_motors (v : Vexone) (o : Op) (e : Entry) (st d : Nat) (b : List Byte) : (v.finish o e st d b).motors = v.motors := Vexone.completeAt_motors ..
@[simp] theorem Vexone.finish_mbus (v : Vexone) (o : Op) (e : Entry) (st d : Nat) (b : List Byte) : (v.finish o e st d b).mbus = v.mbus := Vexone.completeAt_mbus ..
@[simp] theorem Vexone.finish_eg (v : Vexone) (o : Op) (e : Entry) (st d : Nat) (b : List Byte) : (v.finish o e st d b).eg = v.eg := Vexone.completeAt_eg ..
@[simp] theorem Vexone.finish_res (v : Vexone) (o : Op) (e : Entry) (st d : Nat) (b : List Byte) : (v.finish o e st d b).res = v.res := Vexone.completeAt_res ..
@[simp] theorem Vexone.finish_mains (v : Vexone) (o : Op) (e : Entry) (st d : Nat) (b : List Byte) : (v.finish o e st d b).mains = v.mains := Vexone.completeAt_mains ..
@[simp] theorem Vexone.finish_th (v : Vexone) (o : Op) (e : Entry) (st d : Nat) (b : List Byte) : (v.finish o e st d b).th = v.th := Vexone.completeAt_th ..
@[simp] theorem Vexone.finish_fans (v : Vexone) (o : Op) (e : Entry) (st d : Nat) (b : List Byte) : (v.finish o e st d b).fans = v.fans := Vexone.completeAt_fans ..
@[simp] theorem Vexone.finish_fwd (v : Vexone) (o : Op) (e : Entry) (st d : Nat) (b : List Byte) : (v.finish o e st d b).fwd = v.fwd := Vexone.completeAt_fwd ..
@[simp] theorem Vexone.finish_rack (v : Vexone) (o : Op) (e : Entry) (st d : Nat) (b : List Byte) : (v.finish o e st d b).rack = v.rack := Vexone.completeAt_rack ..
@[simp] theorem Vexone.finish_diags (v : Vexone) (o : Op) (e : Entry) (st d : Nat) (b : List Byte) : (v.finish o e st d b).diags = v.diags := Vexone.completeAt_diags ..
@[simp] theorem Vexone.finish_lin (v : Vexone) (o : Op) (e : Entry) (st d : Nat) (b : List Byte) : (v.finish o e st d b).lin = v.lin := Vexone.completeAt_lin ..
@[simp] theorem Vexone.finish_dcnt (v : Vexone) (o : Op) (e : Entry) (st d : Nat) (b : List Byte) : (v.finish o e st d b).dcnt = v.dcnt := Vexone.completeAt_dcnt ..
@[simp] theorem Vexone.finish_shown (v : Vexone) (o : Op) (e : Entry) (st d : Nat) (b : List Byte) : (v.finish o e st d b).shown = v.shown := Vexone.completeAt_shown ..
@[simp] theorem Vexone.finish_fresh (v : Vexone) (o : Op) (e : Entry) (st d : Nat) (b : List Byte) : (v.finish o e st d b).fresh = v.fresh := Vexone.completeAt_fresh ..

@[simp] theorem Vexone.setWritten_pw (v : Vexone) (a : Nat) (w : Word) : (v.setWritten a w).pw = v.pw := rfl
@[simp] theorem Vexone.setWritten_clk (v : Vexone) (a : Nat) (w : Word) : (v.setWritten a w).clk = v.clk := rfl
@[simp] theorem Vexone.setWritten_fr (v : Vexone) (a : Nat) (w : Word) : (v.setWritten a w).fr = v.fr := rfl
@[simp] theorem Vexone.setWritten_fnEn (v : Vexone) (a : Nat) (w : Word) : (v.setWritten a w).fnEn = v.fnEn := rfl
@[simp] theorem Vexone.setWritten_faults (v : Vexone) (a : Nat) (w : Word) : (v.setWritten a w).faults = v.faults := rfl
@[simp] theorem Vexone.setWritten_pairs (v : Vexone) (a : Nat) (w : Word) : (v.setWritten a w).pairs = v.pairs := rfl
@[simp] theorem Vexone.setWritten_due (v : Vexone) (a : Nat) (w : Word) : (v.setWritten a w).due = v.due := rfl
@[simp] theorem Vexone.setWritten_hal (v : Vexone) (a : Nat) (w : Word) : (v.setWritten a w).hal = v.hal := rfl
@[simp] theorem Vexone.setWritten_portA (v : Vexone) (a : Nat) (w : Word) : (v.setWritten a w).portA = v.portA := rfl
@[simp] theorem Vexone.setWritten_portB (v : Vexone) (a : Nat) (w : Word) : (v.setWritten a w).portB = v.portB := rfl
@[simp] theorem Vexone.setWritten_ms (v : Vexone) (a : Nat) (w : Word) : (v.setWritten a w).ms = v.ms := rfl
@[simp] theorem Vexone.setWritten_ops (v : Vexone) (a : Nat) (w : Word) : (v.setWritten a w).ops = v.ops := rfl
@[simp] theorem Vexone.setWritten_opSeq (v : Vexone) (a : Nat) (w : Word) : (v.setWritten a w).opSeq = v.opSeq := rfl
@[simp] theorem Vexone.setWritten_reads (v : Vexone) (a : Nat) (w : Word) : (v.setWritten a w).reads = v.reads := rfl
@[simp] theorem Vexone.setWritten_nextRid (v : Vexone) (a : Nat) (w : Word) : (v.setWritten a w).nextRid = v.nextRid := rfl
@[simp] theorem Vexone.setWritten_out (v : Vexone) (a : Nat) (w : Word) : (v.setWritten a w).out = v.out := rfl
@[simp] theorem Vexone.setWritten_img (v : Vexone) (a : Nat) (w : Word) : (v.setWritten a w).img = v.img := rfl
@[simp] theorem Vexone.setWritten_sch (v : Vexone) (a : Nat) (w : Word) : (v.setWritten a w).sch = v.sch := rfl
@[simp] theorem Vexone.setWritten_segs (v : Vexone) (a : Nat) (w : Word) : (v.setWritten a w).segs = v.segs := rfl
@[simp] theorem Vexone.setWritten_lanes (v : Vexone) (a : Nat) (w : Word) : (v.setWritten a w).lanes = v.lanes := rfl
@[simp] theorem Vexone.setWritten_sess (v : Vexone) (a : Nat) (w : Word) : (v.setWritten a w).sess = v.sess := rfl
@[simp] theorem Vexone.setWritten_busCap (v : Vexone) (a : Nat) (w : Word) : (v.setWritten a w).busCap = v.busCap := rfl
@[simp] theorem Vexone.setWritten_cx (v : Vexone) (a : Nat) (w : Word) : (v.setWritten a w).cx = v.cx := rfl
@[simp] theorem Vexone.setWritten_fb (v : Vexone) (a : Nat) (w : Word) : (v.setWritten a w).fb = v.fb := rfl
@[simp] theorem Vexone.setWritten_ax (v : Vexone) (a : Nat) (w : Word) : (v.setWritten a w).ax = v.ax := rfl
@[simp] theorem Vexone.setWritten_motors (v : Vexone) (a : Nat) (w : Word) : (v.setWritten a w).motors = v.motors := rfl
@[simp] theorem Vexone.setWritten_mbus (v : Vexone) (a : Nat) (w : Word) : (v.setWritten a w).mbus = v.mbus := rfl
@[simp] theorem Vexone.setWritten_eg (v : Vexone) (a : Nat) (w : Word) : (v.setWritten a w).eg = v.eg := rfl
@[simp] theorem Vexone.setWritten_res (v : Vexone) (a : Nat) (w : Word) : (v.setWritten a w).res = v.res := rfl
@[simp] theorem Vexone.setWritten_mains (v : Vexone) (a : Nat) (w : Word) : (v.setWritten a w).mains = v.mains := rfl
@[simp] theorem Vexone.setWritten_th (v : Vexone) (a : Nat) (w : Word) : (v.setWritten a w).th = v.th := rfl
@[simp] theorem Vexone.setWritten_fans (v : Vexone) (a : Nat) (w : Word) : (v.setWritten a w).fans = v.fans := rfl
@[simp] theorem Vexone.setWritten_fwd (v : Vexone) (a : Nat) (w : Word) : (v.setWritten a w).fwd = v.fwd := rfl
@[simp] theorem Vexone.setWritten_rack (v : Vexone) (a : Nat) (w : Word) : (v.setWritten a w).rack = v.rack := rfl
@[simp] theorem Vexone.setWritten_diags (v : Vexone) (a : Nat) (w : Word) : (v.setWritten a w).diags = v.diags := rfl
@[simp] theorem Vexone.setWritten_lin (v : Vexone) (a : Nat) (w : Word) : (v.setWritten a w).lin = v.lin := rfl
@[simp] theorem Vexone.setWritten_dcnt (v : Vexone) (a : Nat) (w : Word) : (v.setWritten a w).dcnt = v.dcnt := rfl
@[simp] theorem Vexone.setWritten_shown (v : Vexone) (a : Nat) (w : Word) : (v.setWritten a w).shown = v.shown := rfl
@[simp] theorem Vexone.setWritten_later (v : Vexone) (a : Nat) (w : Word) : (v.setWritten a w).later = v.later := rfl
@[simp] theorem Vexone.setWritten_fresh (v : Vexone) (a : Nat) (w : Word) : (v.setWritten a w).fresh = v.fresh := rfl

@[simp] theorem Vexone.setForce_pw (v : Vexone) (a : Nat) (w : Word) : (v.setForce a w).pw = v.pw := rfl
@[simp] theorem Vexone.setForce_clk (v : Vexone) (a : Nat) (w : Word) : (v.setForce a w).clk = v.clk := rfl
@[simp] theorem Vexone.setForce_fr (v : Vexone) (a : Nat) (w : Word) : (v.setForce a w).fr = v.fr := rfl
@[simp] theorem Vexone.setForce_fnEn (v : Vexone) (a : Nat) (w : Word) : (v.setForce a w).fnEn = v.fnEn := rfl
@[simp] theorem Vexone.setForce_faults (v : Vexone) (a : Nat) (w : Word) : (v.setForce a w).faults = v.faults := rfl
@[simp] theorem Vexone.setForce_pairs (v : Vexone) (a : Nat) (w : Word) : (v.setForce a w).pairs = v.pairs := rfl
@[simp] theorem Vexone.setForce_due (v : Vexone) (a : Nat) (w : Word) : (v.setForce a w).due = v.due := rfl
@[simp] theorem Vexone.setForce_hal (v : Vexone) (a : Nat) (w : Word) : (v.setForce a w).hal = v.hal := rfl
@[simp] theorem Vexone.setForce_portA (v : Vexone) (a : Nat) (w : Word) : (v.setForce a w).portA = v.portA := rfl
@[simp] theorem Vexone.setForce_portB (v : Vexone) (a : Nat) (w : Word) : (v.setForce a w).portB = v.portB := rfl
@[simp] theorem Vexone.setForce_ms (v : Vexone) (a : Nat) (w : Word) : (v.setForce a w).ms = v.ms := rfl
@[simp] theorem Vexone.setForce_ops (v : Vexone) (a : Nat) (w : Word) : (v.setForce a w).ops = v.ops := rfl
@[simp] theorem Vexone.setForce_opSeq (v : Vexone) (a : Nat) (w : Word) : (v.setForce a w).opSeq = v.opSeq := rfl
@[simp] theorem Vexone.setForce_reads (v : Vexone) (a : Nat) (w : Word) : (v.setForce a w).reads = v.reads := rfl
@[simp] theorem Vexone.setForce_nextRid (v : Vexone) (a : Nat) (w : Word) : (v.setForce a w).nextRid = v.nextRid := rfl
@[simp] theorem Vexone.setForce_out (v : Vexone) (a : Nat) (w : Word) : (v.setForce a w).out = v.out := rfl
@[simp] theorem Vexone.setForce_img (v : Vexone) (a : Nat) (w : Word) : (v.setForce a w).img = v.img := rfl
@[simp] theorem Vexone.setForce_sch (v : Vexone) (a : Nat) (w : Word) : (v.setForce a w).sch = v.sch := rfl
@[simp] theorem Vexone.setForce_segs (v : Vexone) (a : Nat) (w : Word) : (v.setForce a w).segs = v.segs := rfl
@[simp] theorem Vexone.setForce_lanes (v : Vexone) (a : Nat) (w : Word) : (v.setForce a w).lanes = v.lanes := rfl
@[simp] theorem Vexone.setForce_sess (v : Vexone) (a : Nat) (w : Word) : (v.setForce a w).sess = v.sess := rfl
@[simp] theorem Vexone.setForce_busCap (v : Vexone) (a : Nat) (w : Word) : (v.setForce a w).busCap = v.busCap := rfl
@[simp] theorem Vexone.setForce_cx (v : Vexone) (a : Nat) (w : Word) : (v.setForce a w).cx = v.cx := rfl
@[simp] theorem Vexone.setForce_fb (v : Vexone) (a : Nat) (w : Word) : (v.setForce a w).fb = v.fb := rfl
@[simp] theorem Vexone.setForce_ax (v : Vexone) (a : Nat) (w : Word) : (v.setForce a w).ax = v.ax := rfl
@[simp] theorem Vexone.setForce_motors (v : Vexone) (a : Nat) (w : Word) : (v.setForce a w).motors = v.motors := rfl
@[simp] theorem Vexone.setForce_mbus (v : Vexone) (a : Nat) (w : Word) : (v.setForce a w).mbus = v.mbus := rfl
@[simp] theorem Vexone.setForce_eg (v : Vexone) (a : Nat) (w : Word) : (v.setForce a w).eg = v.eg := rfl
@[simp] theorem Vexone.setForce_res (v : Vexone) (a : Nat) (w : Word) : (v.setForce a w).res = v.res := rfl
@[simp] theorem Vexone.setForce_mains (v : Vexone) (a : Nat) (w : Word) : (v.setForce a w).mains = v.mains := rfl
@[simp] theorem Vexone.setForce_th (v : Vexone) (a : Nat) (w : Word) : (v.setForce a w).th = v.th := rfl
@[simp] theorem Vexone.setForce_fans (v : Vexone) (a : Nat) (w : Word) : (v.setForce a w).fans = v.fans := rfl
@[simp] theorem Vexone.setForce_fwd (v : Vexone) (a : Nat) (w : Word) : (v.setForce a w).fwd = v.fwd := rfl
@[simp] theorem Vexone.setForce_rack (v : Vexone) (a : Nat) (w : Word) : (v.setForce a w).rack = v.rack := rfl
@[simp] theorem Vexone.setForce_diags (v : Vexone) (a : Nat) (w : Word) : (v.setForce a w).diags = v.diags := rfl
@[simp] theorem Vexone.setForce_lin (v : Vexone) (a : Nat) (w : Word) : (v.setForce a w).lin = v.lin := rfl
@[simp] theorem Vexone.setForce_dcnt (v : Vexone) (a : Nat) (w : Word) : (v.setForce a w).dcnt = v.dcnt := rfl
@[simp] theorem Vexone.setForce_shown (v : Vexone) (a : Nat) (w : Word) : (v.setForce a w).shown = v.shown := rfl
@[simp] theorem Vexone.setForce_later (v : Vexone) (a : Nat) (w : Word) : (v.setForce a w).later = v.later := rfl
@[simp] theorem Vexone.setForce_fresh (v : Vexone) (a : Nat) (w : Word) : (v.setForce a w).fresh = v.fresh := rfl

@[simp] theorem Vexone.markFresh_pw (v : Vexone) (a : Nat) : (v.markFresh a).pw = v.pw := rfl
@[simp] theorem Vexone.markFresh_clk (v : Vexone) (a : Nat) : (v.markFresh a).clk = v.clk := rfl
@[simp] theorem Vexone.markFresh_fr (v : Vexone) (a : Nat) : (v.markFresh a).fr = v.fr := rfl
@[simp] theorem Vexone.markFresh_fnEn (v : Vexone) (a : Nat) : (v.markFresh a).fnEn = v.fnEn := rfl
@[simp] theorem Vexone.markFresh_faults (v : Vexone) (a : Nat) : (v.markFresh a).faults = v.faults := rfl
@[simp] theorem Vexone.markFresh_pairs (v : Vexone) (a : Nat) : (v.markFresh a).pairs = v.pairs := rfl
@[simp] theorem Vexone.markFresh_due (v : Vexone) (a : Nat) : (v.markFresh a).due = v.due := rfl
@[simp] theorem Vexone.markFresh_hal (v : Vexone) (a : Nat) : (v.markFresh a).hal = v.hal := rfl
@[simp] theorem Vexone.markFresh_portA (v : Vexone) (a : Nat) : (v.markFresh a).portA = v.portA := rfl
@[simp] theorem Vexone.markFresh_portB (v : Vexone) (a : Nat) : (v.markFresh a).portB = v.portB := rfl
@[simp] theorem Vexone.markFresh_ms (v : Vexone) (a : Nat) : (v.markFresh a).ms = v.ms := rfl
@[simp] theorem Vexone.markFresh_ops (v : Vexone) (a : Nat) : (v.markFresh a).ops = v.ops := rfl
@[simp] theorem Vexone.markFresh_opSeq (v : Vexone) (a : Nat) : (v.markFresh a).opSeq = v.opSeq := rfl
@[simp] theorem Vexone.markFresh_reads (v : Vexone) (a : Nat) : (v.markFresh a).reads = v.reads := rfl
@[simp] theorem Vexone.markFresh_nextRid (v : Vexone) (a : Nat) : (v.markFresh a).nextRid = v.nextRid := rfl
@[simp] theorem Vexone.markFresh_out (v : Vexone) (a : Nat) : (v.markFresh a).out = v.out := rfl
@[simp] theorem Vexone.markFresh_img (v : Vexone) (a : Nat) : (v.markFresh a).img = v.img := rfl
@[simp] theorem Vexone.markFresh_sch (v : Vexone) (a : Nat) : (v.markFresh a).sch = v.sch := rfl
@[simp] theorem Vexone.markFresh_segs (v : Vexone) (a : Nat) : (v.markFresh a).segs = v.segs := rfl
@[simp] theorem Vexone.markFresh_lanes (v : Vexone) (a : Nat) : (v.markFresh a).lanes = v.lanes := rfl
@[simp] theorem Vexone.markFresh_sess (v : Vexone) (a : Nat) : (v.markFresh a).sess = v.sess := rfl
@[simp] theorem Vexone.markFresh_busCap (v : Vexone) (a : Nat) : (v.markFresh a).busCap = v.busCap := rfl
@[simp] theorem Vexone.markFresh_cx (v : Vexone) (a : Nat) : (v.markFresh a).cx = v.cx := rfl
@[simp] theorem Vexone.markFresh_fb (v : Vexone) (a : Nat) : (v.markFresh a).fb = v.fb := rfl
@[simp] theorem Vexone.markFresh_ax (v : Vexone) (a : Nat) : (v.markFresh a).ax = v.ax := rfl
@[simp] theorem Vexone.markFresh_motors (v : Vexone) (a : Nat) : (v.markFresh a).motors = v.motors := rfl
@[simp] theorem Vexone.markFresh_mbus (v : Vexone) (a : Nat) : (v.markFresh a).mbus = v.mbus := rfl
@[simp] theorem Vexone.markFresh_eg (v : Vexone) (a : Nat) : (v.markFresh a).eg = v.eg := rfl
@[simp] theorem Vexone.markFresh_res (v : Vexone) (a : Nat) : (v.markFresh a).res = v.res := rfl
@[simp] theorem Vexone.markFresh_mains (v : Vexone) (a : Nat) : (v.markFresh a).mains = v.mains := rfl
@[simp] theorem Vexone.markFresh_th (v : Vexone) (a : Nat) : (v.markFresh a).th = v.th := rfl
@[simp] theorem Vexone.markFresh_fans (v : Vexone) (a : Nat) : (v.markFresh a).fans = v.fans := rfl
@[simp] theorem Vexone.markFresh_fwd (v : Vexone) (a : Nat) : (v.markFresh a).fwd = v.fwd := rfl
@[simp] theorem Vexone.markFresh_rack (v : Vexone) (a : Nat) : (v.markFresh a).rack = v.rack := rfl
@[simp] theorem Vexone.markFresh_diags (v : Vexone) (a : Nat) : (v.markFresh a).diags = v.diags := rfl
@[simp] theorem Vexone.markFresh_lin (v : Vexone) (a : Nat) : (v.markFresh a).lin = v.lin := rfl
@[simp] theorem Vexone.markFresh_dcnt (v : Vexone) (a : Nat) : (v.markFresh a).dcnt = v.dcnt := rfl
@[simp] theorem Vexone.markFresh_shown (v : Vexone) (a : Nat) : (v.markFresh a).shown = v.shown := rfl
@[simp] theorem Vexone.markFresh_later (v : Vexone) (a : Nat) : (v.markFresh a).later = v.later := rfl
@[simp] theorem Vexone.markFresh_fresh (v : Vexone) (a : Nat) : (v.markFresh a).fresh = v.fresh := rfl

@[simp] theorem Vexone.unmarkFresh_pw (v : Vexone) (a : Nat) : (v.unmarkFresh a).pw = v.pw := rfl
@[simp] theorem Vexone.unmarkFresh_clk (v : Vexone) (a : Nat) : (v.unmarkFresh a).clk = v.clk := rfl
@[simp] theorem Vexone.unmarkFresh_fr (v : Vexone) (a : Nat) : (v.unmarkFresh a).fr = v.fr := rfl
@[simp] theorem Vexone.unmarkFresh_fnEn (v : Vexone) (a : Nat) : (v.unmarkFresh a).fnEn = v.fnEn := rfl
@[simp] theorem Vexone.unmarkFresh_faults (v : Vexone) (a : Nat) : (v.unmarkFresh a).faults = v.faults := rfl
@[simp] theorem Vexone.unmarkFresh_pairs (v : Vexone) (a : Nat) : (v.unmarkFresh a).pairs = v.pairs := rfl
@[simp] theorem Vexone.unmarkFresh_due (v : Vexone) (a : Nat) : (v.unmarkFresh a).due = v.due := rfl
@[simp] theorem Vexone.unmarkFresh_hal (v : Vexone) (a : Nat) : (v.unmarkFresh a).hal = v.hal := rfl
@[simp] theorem Vexone.unmarkFresh_portA (v : Vexone) (a : Nat) : (v.unmarkFresh a).portA = v.portA := rfl
@[simp] theorem Vexone.unmarkFresh_portB (v : Vexone) (a : Nat) : (v.unmarkFresh a).portB = v.portB := rfl
@[simp] theorem Vexone.unmarkFresh_ms (v : Vexone) (a : Nat) : (v.unmarkFresh a).ms = v.ms := rfl
@[simp] theorem Vexone.unmarkFresh_ops (v : Vexone) (a : Nat) : (v.unmarkFresh a).ops = v.ops := rfl
@[simp] theorem Vexone.unmarkFresh_opSeq (v : Vexone) (a : Nat) : (v.unmarkFresh a).opSeq = v.opSeq := rfl
@[simp] theorem Vexone.unmarkFresh_reads (v : Vexone) (a : Nat) : (v.unmarkFresh a).reads = v.reads := rfl
@[simp] theorem Vexone.unmarkFresh_nextRid (v : Vexone) (a : Nat) : (v.unmarkFresh a).nextRid = v.nextRid := rfl
@[simp] theorem Vexone.unmarkFresh_out (v : Vexone) (a : Nat) : (v.unmarkFresh a).out = v.out := rfl
@[simp] theorem Vexone.unmarkFresh_img (v : Vexone) (a : Nat) : (v.unmarkFresh a).img = v.img := rfl
@[simp] theorem Vexone.unmarkFresh_sch (v : Vexone) (a : Nat) : (v.unmarkFresh a).sch = v.sch := rfl
@[simp] theorem Vexone.unmarkFresh_segs (v : Vexone) (a : Nat) : (v.unmarkFresh a).segs = v.segs := rfl
@[simp] theorem Vexone.unmarkFresh_lanes (v : Vexone) (a : Nat) : (v.unmarkFresh a).lanes = v.lanes := rfl
@[simp] theorem Vexone.unmarkFresh_sess (v : Vexone) (a : Nat) : (v.unmarkFresh a).sess = v.sess := rfl
@[simp] theorem Vexone.unmarkFresh_busCap (v : Vexone) (a : Nat) : (v.unmarkFresh a).busCap = v.busCap := rfl
@[simp] theorem Vexone.unmarkFresh_cx (v : Vexone) (a : Nat) : (v.unmarkFresh a).cx = v.cx := rfl
@[simp] theorem Vexone.unmarkFresh_fb (v : Vexone) (a : Nat) : (v.unmarkFresh a).fb = v.fb := rfl
@[simp] theorem Vexone.unmarkFresh_ax (v : Vexone) (a : Nat) : (v.unmarkFresh a).ax = v.ax := rfl
@[simp] theorem Vexone.unmarkFresh_motors (v : Vexone) (a : Nat) : (v.unmarkFresh a).motors = v.motors := rfl
@[simp] theorem Vexone.unmarkFresh_mbus (v : Vexone) (a : Nat) : (v.unmarkFresh a).mbus = v.mbus := rfl
@[simp] theorem Vexone.unmarkFresh_eg (v : Vexone) (a : Nat) : (v.unmarkFresh a).eg = v.eg := rfl
@[simp] theorem Vexone.unmarkFresh_res (v : Vexone) (a : Nat) : (v.unmarkFresh a).res = v.res := rfl
@[simp] theorem Vexone.unmarkFresh_mains (v : Vexone) (a : Nat) : (v.unmarkFresh a).mains = v.mains := rfl
@[simp] theorem Vexone.unmarkFresh_th (v : Vexone) (a : Nat) : (v.unmarkFresh a).th = v.th := rfl
@[simp] theorem Vexone.unmarkFresh_fans (v : Vexone) (a : Nat) : (v.unmarkFresh a).fans = v.fans := rfl
@[simp] theorem Vexone.unmarkFresh_fwd (v : Vexone) (a : Nat) : (v.unmarkFresh a).fwd = v.fwd := rfl
@[simp] theorem Vexone.unmarkFresh_rack (v : Vexone) (a : Nat) : (v.unmarkFresh a).rack = v.rack := rfl
@[simp] theorem Vexone.unmarkFresh_diags (v : Vexone) (a : Nat) : (v.unmarkFresh a).diags = v.diags := rfl
@[simp] theorem Vexone.unmarkFresh_lin (v : Vexone) (a : Nat) : (v.unmarkFresh a).lin = v.lin := rfl
@[simp] theorem Vexone.unmarkFresh_dcnt (v : Vexone) (a : Nat) : (v.unmarkFresh a).dcnt = v.dcnt := rfl
@[simp] theorem Vexone.unmarkFresh_shown (v : Vexone) (a : Nat) : (v.unmarkFresh a).shown = v.shown := rfl
@[simp] theorem Vexone.unmarkFresh_later (v : Vexone) (a : Nat) : (v.unmarkFresh a).later = v.later := rfl
@[simp] theorem Vexone.unmarkFresh_fresh (v : Vexone) (a : Nat) : (v.unmarkFresh a).fresh = v.fresh := rfl

@[simp] theorem Vexone.modMst_pw (v : Vexone) (m : Master) (f : MasterState → MasterState) : (v.modMst m f).pw = v.pw := rfl
@[simp] theorem Vexone.modMst_clk (v : Vexone) (m : Master) (f : MasterState → MasterState) : (v.modMst m f).clk = v.clk := rfl
@[simp] theorem Vexone.modMst_fr (v : Vexone) (m : Master) (f : MasterState → MasterState) : (v.modMst m f).fr = v.fr := rfl
@[simp] theorem Vexone.modMst_regs (v : Vexone) (m : Master) (f : MasterState → MasterState) : (v.modMst m f).regs = v.regs := rfl
@[simp] theorem Vexone.modMst_fnEn (v : Vexone) (m : Master) (f : MasterState → MasterState) : (v.modMst m f).fnEn = v.fnEn := rfl
@[simp] theorem Vexone.modMst_faults (v : Vexone) (m : Master) (f : MasterState → MasterState) : (v.modMst m f).faults = v.faults := rfl
@[simp] theorem Vexone.modMst_pairs (v : Vexone) (m : Master) (f : MasterState → MasterState) : (v.modMst m f).pairs = v.pairs := rfl
@[simp] theorem Vexone.modMst_due (v : Vexone) (m : Master) (f : MasterState → MasterState) : (v.modMst m f).due = v.due := rfl
@[simp] theorem Vexone.modMst_hal (v : Vexone) (m : Master) (f : MasterState → MasterState) : (v.modMst m f).hal = v.hal := rfl
@[simp] theorem Vexone.modMst_portA (v : Vexone) (m : Master) (f : MasterState → MasterState) : (v.modMst m f).portA = v.portA := rfl
@[simp] theorem Vexone.modMst_portB (v : Vexone) (m : Master) (f : MasterState → MasterState) : (v.modMst m f).portB = v.portB := rfl
@[simp] theorem Vexone.modMst_ops (v : Vexone) (m : Master) (f : MasterState → MasterState) : (v.modMst m f).ops = v.ops := rfl
@[simp] theorem Vexone.modMst_opSeq (v : Vexone) (m : Master) (f : MasterState → MasterState) : (v.modMst m f).opSeq = v.opSeq := rfl
@[simp] theorem Vexone.modMst_reads (v : Vexone) (m : Master) (f : MasterState → MasterState) : (v.modMst m f).reads = v.reads := rfl
@[simp] theorem Vexone.modMst_nextRid (v : Vexone) (m : Master) (f : MasterState → MasterState) : (v.modMst m f).nextRid = v.nextRid := rfl
@[simp] theorem Vexone.modMst_out (v : Vexone) (m : Master) (f : MasterState → MasterState) : (v.modMst m f).out = v.out := rfl
@[simp] theorem Vexone.modMst_img (v : Vexone) (m : Master) (f : MasterState → MasterState) : (v.modMst m f).img = v.img := rfl
@[simp] theorem Vexone.modMst_sch (v : Vexone) (m : Master) (f : MasterState → MasterState) : (v.modMst m f).sch = v.sch := rfl
@[simp] theorem Vexone.modMst_segs (v : Vexone) (m : Master) (f : MasterState → MasterState) : (v.modMst m f).segs = v.segs := rfl
@[simp] theorem Vexone.modMst_lanes (v : Vexone) (m : Master) (f : MasterState → MasterState) : (v.modMst m f).lanes = v.lanes := rfl
@[simp] theorem Vexone.modMst_sess (v : Vexone) (m : Master) (f : MasterState → MasterState) : (v.modMst m f).sess = v.sess := rfl
@[simp] theorem Vexone.modMst_busCap (v : Vexone) (m : Master) (f : MasterState → MasterState) : (v.modMst m f).busCap = v.busCap := rfl
@[simp] theorem Vexone.modMst_cx (v : Vexone) (m : Master) (f : MasterState → MasterState) : (v.modMst m f).cx = v.cx := rfl
@[simp] theorem Vexone.modMst_fb (v : Vexone) (m : Master) (f : MasterState → MasterState) : (v.modMst m f).fb = v.fb := rfl
@[simp] theorem Vexone.modMst_ax (v : Vexone) (m : Master) (f : MasterState → MasterState) : (v.modMst m f).ax = v.ax := rfl
@[simp] theorem Vexone.modMst_motors (v : Vexone) (m : Master) (f : MasterState → MasterState) : (v.modMst m f).motors = v.motors := rfl
@[simp] theorem Vexone.modMst_mbus (v : Vexone) (m : Master) (f : MasterState → MasterState) : (v.modMst m f).mbus = v.mbus := rfl
@[simp] theorem Vexone.modMst_eg (v : Vexone) (m : Master) (f : MasterState → MasterState) : (v.modMst m f).eg = v.eg := rfl
@[simp] theorem Vexone.modMst_res (v : Vexone) (m : Master) (f : MasterState → MasterState) : (v.modMst m f).res = v.res := rfl
@[simp] theorem Vexone.modMst_mains (v : Vexone) (m : Master) (f : MasterState → MasterState) : (v.modMst m f).mains = v.mains := rfl
@[simp] theorem Vexone.modMst_th (v : Vexone) (m : Master) (f : MasterState → MasterState) : (v.modMst m f).th = v.th := rfl
@[simp] theorem Vexone.modMst_fans (v : Vexone) (m : Master) (f : MasterState → MasterState) : (v.modMst m f).fans = v.fans := rfl
@[simp] theorem Vexone.modMst_fwd (v : Vexone) (m : Master) (f : MasterState → MasterState) : (v.modMst m f).fwd = v.fwd := rfl
@[simp] theorem Vexone.modMst_rack (v : Vexone) (m : Master) (f : MasterState → MasterState) : (v.modMst m f).rack = v.rack := rfl
@[simp] theorem Vexone.modMst_diags (v : Vexone) (m : Master) (f : MasterState → MasterState) : (v.modMst m f).diags = v.diags := rfl
@[simp] theorem Vexone.modMst_lin (v : Vexone) (m : Master) (f : MasterState → MasterState) : (v.modMst m f).lin = v.lin := rfl
@[simp] theorem Vexone.modMst_dcnt (v : Vexone) (m : Master) (f : MasterState → MasterState) : (v.modMst m f).dcnt = v.dcnt := rfl
@[simp] theorem Vexone.modMst_shown (v : Vexone) (m : Master) (f : MasterState → MasterState) : (v.modMst m f).shown = v.shown := rfl
@[simp] theorem Vexone.modMst_later (v : Vexone) (m : Master) (f : MasterState → MasterState) : (v.modMst m f).later = v.later := rfl
@[simp] theorem Vexone.modMst_fresh (v : Vexone) (m : Master) (f : MasterState → MasterState) : (v.modMst m f).fresh = v.fresh := rfl

@[simp] theorem Vexone.modSeg_pw (v : Vexone) (k : SegId) (f : Seg → Seg) : (v.modSeg k f).pw = v.pw := rfl
@[simp] theorem Vexone.modSeg_clk (v : Vexone) (k : SegId) (f : Seg → Seg) : (v.modSeg k f).clk = v.clk := rfl
@[simp] theorem Vexone.modSeg_fr (v : Vexone) (k : SegId) (f : Seg → Seg) : (v.modSeg k f).fr = v.fr := rfl
@[simp] theorem Vexone.modSeg_regs (v : Vexone) (k : SegId) (f : Seg → Seg) : (v.modSeg k f).regs = v.regs := rfl
@[simp] theorem Vexone.modSeg_fnEn (v : Vexone) (k : SegId) (f : Seg → Seg) : (v.modSeg k f).fnEn = v.fnEn := rfl
@[simp] theorem Vexone.modSeg_faults (v : Vexone) (k : SegId) (f : Seg → Seg) : (v.modSeg k f).faults = v.faults := rfl
@[simp] theorem Vexone.modSeg_pairs (v : Vexone) (k : SegId) (f : Seg → Seg) : (v.modSeg k f).pairs = v.pairs := rfl
@[simp] theorem Vexone.modSeg_due (v : Vexone) (k : SegId) (f : Seg → Seg) : (v.modSeg k f).due = v.due := rfl
@[simp] theorem Vexone.modSeg_hal (v : Vexone) (k : SegId) (f : Seg → Seg) : (v.modSeg k f).hal = v.hal := rfl
@[simp] theorem Vexone.modSeg_portA (v : Vexone) (k : SegId) (f : Seg → Seg) : (v.modSeg k f).portA = v.portA := rfl
@[simp] theorem Vexone.modSeg_portB (v : Vexone) (k : SegId) (f : Seg → Seg) : (v.modSeg k f).portB = v.portB := rfl
@[simp] theorem Vexone.modSeg_ms (v : Vexone) (k : SegId) (f : Seg → Seg) : (v.modSeg k f).ms = v.ms := rfl
@[simp] theorem Vexone.modSeg_ops (v : Vexone) (k : SegId) (f : Seg → Seg) : (v.modSeg k f).ops = v.ops := rfl
@[simp] theorem Vexone.modSeg_opSeq (v : Vexone) (k : SegId) (f : Seg → Seg) : (v.modSeg k f).opSeq = v.opSeq := rfl
@[simp] theorem Vexone.modSeg_reads (v : Vexone) (k : SegId) (f : Seg → Seg) : (v.modSeg k f).reads = v.reads := rfl
@[simp] theorem Vexone.modSeg_nextRid (v : Vexone) (k : SegId) (f : Seg → Seg) : (v.modSeg k f).nextRid = v.nextRid := rfl
@[simp] theorem Vexone.modSeg_out (v : Vexone) (k : SegId) (f : Seg → Seg) : (v.modSeg k f).out = v.out := rfl
@[simp] theorem Vexone.modSeg_img (v : Vexone) (k : SegId) (f : Seg → Seg) : (v.modSeg k f).img = v.img := rfl
@[simp] theorem Vexone.modSeg_sch (v : Vexone) (k : SegId) (f : Seg → Seg) : (v.modSeg k f).sch = v.sch := rfl
@[simp] theorem Vexone.modSeg_lanes (v : Vexone) (k : SegId) (f : Seg → Seg) : (v.modSeg k f).lanes = v.lanes := rfl
@[simp] theorem Vexone.modSeg_sess (v : Vexone) (k : SegId) (f : Seg → Seg) : (v.modSeg k f).sess = v.sess := rfl
@[simp] theorem Vexone.modSeg_busCap (v : Vexone) (k : SegId) (f : Seg → Seg) : (v.modSeg k f).busCap = v.busCap := rfl
@[simp] theorem Vexone.modSeg_cx (v : Vexone) (k : SegId) (f : Seg → Seg) : (v.modSeg k f).cx = v.cx := rfl
@[simp] theorem Vexone.modSeg_fb (v : Vexone) (k : SegId) (f : Seg → Seg) : (v.modSeg k f).fb = v.fb := rfl
@[simp] theorem Vexone.modSeg_ax (v : Vexone) (k : SegId) (f : Seg → Seg) : (v.modSeg k f).ax = v.ax := rfl
@[simp] theorem Vexone.modSeg_motors (v : Vexone) (k : SegId) (f : Seg → Seg) : (v.modSeg k f).motors = v.motors := rfl
@[simp] theorem Vexone.modSeg_mbus (v : Vexone) (k : SegId) (f : Seg → Seg) : (v.modSeg k f).mbus = v.mbus := rfl
@[simp] theorem Vexone.modSeg_eg (v : Vexone) (k : SegId) (f : Seg → Seg) : (v.modSeg k f).eg = v.eg := rfl
@[simp] theorem Vexone.modSeg_res (v : Vexone) (k : SegId) (f : Seg → Seg) : (v.modSeg k f).res = v.res := rfl
@[simp] theorem Vexone.modSeg_mains (v : Vexone) (k : SegId) (f : Seg → Seg) : (v.modSeg k f).mains = v.mains := rfl
@[simp] theorem Vexone.modSeg_th (v : Vexone) (k : SegId) (f : Seg → Seg) : (v.modSeg k f).th = v.th := rfl
@[simp] theorem Vexone.modSeg_fans (v : Vexone) (k : SegId) (f : Seg → Seg) : (v.modSeg k f).fans = v.fans := rfl
@[simp] theorem Vexone.modSeg_fwd (v : Vexone) (k : SegId) (f : Seg → Seg) : (v.modSeg k f).fwd = v.fwd := rfl
@[simp] theorem Vexone.modSeg_rack (v : Vexone) (k : SegId) (f : Seg → Seg) : (v.modSeg k f).rack = v.rack := rfl
@[simp] theorem Vexone.modSeg_diags (v : Vexone) (k : SegId) (f : Seg → Seg) : (v.modSeg k f).diags = v.diags := rfl
@[simp] theorem Vexone.modSeg_lin (v : Vexone) (k : SegId) (f : Seg → Seg) : (v.modSeg k f).lin = v.lin := rfl
@[simp] theorem Vexone.modSeg_dcnt (v : Vexone) (k : SegId) (f : Seg → Seg) : (v.modSeg k f).dcnt = v.dcnt := rfl
@[simp] theorem Vexone.modSeg_shown (v : Vexone) (k : SegId) (f : Seg → Seg) : (v.modSeg k f).shown = v.shown := rfl
@[simp] theorem Vexone.modSeg_later (v : Vexone) (k : SegId) (f : Seg → Seg) : (v.modSeg k f).later = v.later := rfl
@[simp] theorem Vexone.modSeg_fresh (v : Vexone) (k : SegId) (f : Seg → Seg) : (v.modSeg k f).fresh = v.fresh := rfl

@[simp] theorem Vexone.modLane_pw (v : Vexone) (k : LaneId) (f : Lane → Lane) : (v.modLane k f).pw = v.pw := rfl
@[simp] theorem Vexone.modLane_clk (v : Vexone) (k : LaneId) (f : Lane → Lane) : (v.modLane k f).clk = v.clk := rfl
@[simp] theorem Vexone.modLane_fr (v : Vexone) (k : LaneId) (f : Lane → Lane) : (v.modLane k f).fr = v.fr := rfl
@[simp] theorem Vexone.modLane_regs (v : Vexone) (k : LaneId) (f : Lane → Lane) : (v.modLane k f).regs = v.regs := rfl
@[simp] theorem Vexone.modLane_fnEn (v : Vexone) (k : LaneId) (f : Lane → Lane) : (v.modLane k f).fnEn = v.fnEn := rfl
@[simp] theorem Vexone.modLane_faults (v : Vexone) (k : LaneId) (f : Lane → Lane) : (v.modLane k f).faults = v.faults := rfl
@[simp] theorem Vexone.modLane_pairs (v : Vexone) (k : LaneId) (f : Lane → Lane) : (v.modLane k f).pairs = v.pairs := rfl
@[simp] theorem Vexone.modLane_due (v : Vexone) (k : LaneId) (f : Lane → Lane) : (v.modLane k f).due = v.due := rfl
@[simp] theorem Vexone.modLane_hal (v : Vexone) (k : LaneId) (f : Lane → Lane) : (v.modLane k f).hal = v.hal := rfl
@[simp] theorem Vexone.modLane_portA (v : Vexone) (k : LaneId) (f : Lane → Lane) : (v.modLane k f).portA = v.portA := rfl
@[simp] theorem Vexone.modLane_portB (v : Vexone) (k : LaneId) (f : Lane → Lane) : (v.modLane k f).portB = v.portB := rfl
@[simp] theorem Vexone.modLane_ms (v : Vexone) (k : LaneId) (f : Lane → Lane) : (v.modLane k f).ms = v.ms := rfl
@[simp] theorem Vexone.modLane_ops (v : Vexone) (k : LaneId) (f : Lane → Lane) : (v.modLane k f).ops = v.ops := rfl
@[simp] theorem Vexone.modLane_opSeq (v : Vexone) (k : LaneId) (f : Lane → Lane) : (v.modLane k f).opSeq = v.opSeq := rfl
@[simp] theorem Vexone.modLane_reads (v : Vexone) (k : LaneId) (f : Lane → Lane) : (v.modLane k f).reads = v.reads := rfl
@[simp] theorem Vexone.modLane_nextRid (v : Vexone) (k : LaneId) (f : Lane → Lane) : (v.modLane k f).nextRid = v.nextRid := rfl
@[simp] theorem Vexone.modLane_out (v : Vexone) (k : LaneId) (f : Lane → Lane) : (v.modLane k f).out = v.out := rfl
@[simp] theorem Vexone.modLane_img (v : Vexone) (k : LaneId) (f : Lane → Lane) : (v.modLane k f).img = v.img := rfl
@[simp] theorem Vexone.modLane_sch (v : Vexone) (k : LaneId) (f : Lane → Lane) : (v.modLane k f).sch = v.sch := rfl
@[simp] theorem Vexone.modLane_segs (v : Vexone) (k : LaneId) (f : Lane → Lane) : (v.modLane k f).segs = v.segs := rfl
@[simp] theorem Vexone.modLane_sess (v : Vexone) (k : LaneId) (f : Lane → Lane) : (v.modLane k f).sess = v.sess := rfl
@[simp] theorem Vexone.modLane_busCap (v : Vexone) (k : LaneId) (f : Lane → Lane) : (v.modLane k f).busCap = v.busCap := rfl
@[simp] theorem Vexone.modLane_cx (v : Vexone) (k : LaneId) (f : Lane → Lane) : (v.modLane k f).cx = v.cx := rfl
@[simp] theorem Vexone.modLane_fb (v : Vexone) (k : LaneId) (f : Lane → Lane) : (v.modLane k f).fb = v.fb := rfl
@[simp] theorem Vexone.modLane_ax (v : Vexone) (k : LaneId) (f : Lane → Lane) : (v.modLane k f).ax = v.ax := rfl
@[simp] theorem Vexone.modLane_motors (v : Vexone) (k : LaneId) (f : Lane → Lane) : (v.modLane k f).motors = v.motors := rfl
@[simp] theorem Vexone.modLane_mbus (v : Vexone) (k : LaneId) (f : Lane → Lane) : (v.modLane k f).mbus = v.mbus := rfl
@[simp] theorem Vexone.modLane_eg (v : Vexone) (k : LaneId) (f : Lane → Lane) : (v.modLane k f).eg = v.eg := rfl
@[simp] theorem Vexone.modLane_res (v : Vexone) (k : LaneId) (f : Lane → Lane) : (v.modLane k f).res = v.res := rfl
@[simp] theorem Vexone.modLane_mains (v : Vexone) (k : LaneId) (f : Lane → Lane) : (v.modLane k f).mains = v.mains := rfl
@[simp] theorem Vexone.modLane_th (v : Vexone) (k : LaneId) (f : Lane → Lane) : (v.modLane k f).th = v.th := rfl
@[simp] theorem Vexone.modLane_fans (v : Vexone) (k : LaneId) (f : Lane → Lane) : (v.modLane k f).fans = v.fans := rfl
@[simp] theorem Vexone.modLane_fwd (v : Vexone) (k : LaneId) (f : Lane → Lane) : (v.modLane k f).fwd = v.fwd := rfl
@[simp] theorem Vexone.modLane_rack (v : Vexone) (k : LaneId) (f : Lane → Lane) : (v.modLane k f).rack = v.rack := rfl
@[simp] theorem Vexone.modLane_diags (v : Vexone) (k : LaneId) (f : Lane → Lane) : (v.modLane k f).diags = v.diags := rfl
@[simp] theorem Vexone.modLane_lin (v : Vexone) (k : LaneId) (f : Lane → Lane) : (v.modLane k f).lin = v.lin := rfl
@[simp] theorem Vexone.modLane_dcnt (v : Vexone) (k : LaneId) (f : Lane → Lane) : (v.modLane k f).dcnt = v.dcnt := rfl
@[simp] theorem Vexone.modLane_shown (v : Vexone) (k : LaneId) (f : Lane → Lane) : (v.modLane k f).shown = v.shown := rfl
@[simp] theorem Vexone.modLane_later (v : Vexone) (k : LaneId) (f : Lane → Lane) : (v.modLane k f).later = v.later := rfl
@[simp] theorem Vexone.modLane_fresh (v : Vexone) (k : LaneId) (f : Lane → Lane) : (v.modLane k f).fresh = v.fresh := rfl

@[simp] theorem Vexone.modMotor_pw (v : Vexone) (k : MotorId) (f : Motor → Motor) : (v.modMotor k f).pw = v.pw := rfl
@[simp] theorem Vexone.modMotor_clk (v : Vexone) (k : MotorId) (f : Motor → Motor) : (v.modMotor k f).clk = v.clk := rfl
@[simp] theorem Vexone.modMotor_fr (v : Vexone) (k : MotorId) (f : Motor → Motor) : (v.modMotor k f).fr = v.fr := rfl
@[simp] theorem Vexone.modMotor_regs (v : Vexone) (k : MotorId) (f : Motor → Motor) : (v.modMotor k f).regs = v.regs := rfl
@[simp] theorem Vexone.modMotor_fnEn (v : Vexone) (k : MotorId) (f : Motor → Motor) : (v.modMotor k f).fnEn = v.fnEn := rfl
@[simp] theorem Vexone.modMotor_faults (v : Vexone) (k : MotorId) (f : Motor → Motor) : (v.modMotor k f).faults = v.faults := rfl
@[simp] theorem Vexone.modMotor_pairs (v : Vexone) (k : MotorId) (f : Motor → Motor) : (v.modMotor k f).pairs = v.pairs := rfl
@[simp] theorem Vexone.modMotor_due (v : Vexone) (k : MotorId) (f : Motor → Motor) : (v.modMotor k f).due = v.due := rfl
@[simp] theorem Vexone.modMotor_hal (v : Vexone) (k : MotorId) (f : Motor → Motor) : (v.modMotor k f).hal = v.hal := rfl
@[simp] theorem Vexone.modMotor_portA (v : Vexone) (k : MotorId) (f : Motor → Motor) : (v.modMotor k f).portA = v.portA := rfl
@[simp] theorem Vexone.modMotor_portB (v : Vexone) (k : MotorId) (f : Motor → Motor) : (v.modMotor k f).portB = v.portB := rfl
@[simp] theorem Vexone.modMotor_ms (v : Vexone) (k : MotorId) (f : Motor → Motor) : (v.modMotor k f).ms = v.ms := rfl
@[simp] theorem Vexone.modMotor_ops (v : Vexone) (k : MotorId) (f : Motor → Motor) : (v.modMotor k f).ops = v.ops := rfl
@[simp] theorem Vexone.modMotor_opSeq (v : Vexone) (k : MotorId) (f : Motor → Motor) : (v.modMotor k f).opSeq = v.opSeq := rfl
@[simp] theorem Vexone.modMotor_reads (v : Vexone) (k : MotorId) (f : Motor → Motor) : (v.modMotor k f).reads = v.reads := rfl
@[simp] theorem Vexone.modMotor_nextRid (v : Vexone) (k : MotorId) (f : Motor → Motor) : (v.modMotor k f).nextRid = v.nextRid := rfl
@[simp] theorem Vexone.modMotor_out (v : Vexone) (k : MotorId) (f : Motor → Motor) : (v.modMotor k f).out = v.out := rfl
@[simp] theorem Vexone.modMotor_img (v : Vexone) (k : MotorId) (f : Motor → Motor) : (v.modMotor k f).img = v.img := rfl
@[simp] theorem Vexone.modMotor_sch (v : Vexone) (k : MotorId) (f : Motor → Motor) : (v.modMotor k f).sch = v.sch := rfl
@[simp] theorem Vexone.modMotor_segs (v : Vexone) (k : MotorId) (f : Motor → Motor) : (v.modMotor k f).segs = v.segs := rfl
@[simp] theorem Vexone.modMotor_lanes (v : Vexone) (k : MotorId) (f : Motor → Motor) : (v.modMotor k f).lanes = v.lanes := rfl
@[simp] theorem Vexone.modMotor_sess (v : Vexone) (k : MotorId) (f : Motor → Motor) : (v.modMotor k f).sess = v.sess := rfl
@[simp] theorem Vexone.modMotor_busCap (v : Vexone) (k : MotorId) (f : Motor → Motor) : (v.modMotor k f).busCap = v.busCap := rfl
@[simp] theorem Vexone.modMotor_cx (v : Vexone) (k : MotorId) (f : Motor → Motor) : (v.modMotor k f).cx = v.cx := rfl
@[simp] theorem Vexone.modMotor_fb (v : Vexone) (k : MotorId) (f : Motor → Motor) : (v.modMotor k f).fb = v.fb := rfl
@[simp] theorem Vexone.modMotor_ax (v : Vexone) (k : MotorId) (f : Motor → Motor) : (v.modMotor k f).ax = v.ax := rfl
@[simp] theorem Vexone.modMotor_mbus (v : Vexone) (k : MotorId) (f : Motor → Motor) : (v.modMotor k f).mbus = v.mbus := rfl
@[simp] theorem Vexone.modMotor_eg (v : Vexone) (k : MotorId) (f : Motor → Motor) : (v.modMotor k f).eg = v.eg := rfl
@[simp] theorem Vexone.modMotor_res (v : Vexone) (k : MotorId) (f : Motor → Motor) : (v.modMotor k f).res = v.res := rfl
@[simp] theorem Vexone.modMotor_mains (v : Vexone) (k : MotorId) (f : Motor → Motor) : (v.modMotor k f).mains = v.mains := rfl
@[simp] theorem Vexone.modMotor_th (v : Vexone) (k : MotorId) (f : Motor → Motor) : (v.modMotor k f).th = v.th := rfl
@[simp] theorem Vexone.modMotor_fans (v : Vexone) (k : MotorId) (f : Motor → Motor) : (v.modMotor k f).fans = v.fans := rfl
@[simp] theorem Vexone.modMotor_fwd (v : Vexone) (k : MotorId) (f : Motor → Motor) : (v.modMotor k f).fwd = v.fwd := rfl
@[simp] theorem Vexone.modMotor_rack (v : Vexone) (k : MotorId) (f : Motor → Motor) : (v.modMotor k f).rack = v.rack := rfl
@[simp] theorem Vexone.modMotor_diags (v : Vexone) (k : MotorId) (f : Motor → Motor) : (v.modMotor k f).diags = v.diags := rfl
@[simp] theorem Vexone.modMotor_lin (v : Vexone) (k : MotorId) (f : Motor → Motor) : (v.modMotor k f).lin = v.lin := rfl
@[simp] theorem Vexone.modMotor_dcnt (v : Vexone) (k : MotorId) (f : Motor → Motor) : (v.modMotor k f).dcnt = v.dcnt := rfl
@[simp] theorem Vexone.modMotor_shown (v : Vexone) (k : MotorId) (f : Motor → Motor) : (v.modMotor k f).shown = v.shown := rfl
@[simp] theorem Vexone.modMotor_later (v : Vexone) (k : MotorId) (f : Motor → Motor) : (v.modMotor k f).later = v.later := rfl
@[simp] theorem Vexone.modMotor_fresh (v : Vexone) (k : MotorId) (f : Motor → Motor) : (v.modMotor k f).fresh = v.fresh := rfl

@[simp] theorem Vexone.modFan_pw (v : Vexone) (k : FanId) (f : Fan → Fan) : (v.modFan k f).pw = v.pw := rfl
@[simp] theorem Vexone.modFan_clk (v : Vexone) (k : FanId) (f : Fan → Fan) : (v.modFan k f).clk = v.clk := rfl
@[simp] theorem Vexone.modFan_fr (v : Vexone) (k : FanId) (f : Fan → Fan) : (v.modFan k f).fr = v.fr := rfl
@[simp] theorem Vexone.modFan_regs (v : Vexone) (k : FanId) (f : Fan → Fan) : (v.modFan k f).regs = v.regs := rfl
@[simp] theorem Vexone.modFan_fnEn (v : Vexone) (k : FanId) (f : Fan → Fan) : (v.modFan k f).fnEn = v.fnEn := rfl
@[simp] theorem Vexone.modFan_faults (v : Vexone) (k : FanId) (f : Fan → Fan) : (v.modFan k f).faults = v.faults := rfl
@[simp] theorem Vexone.modFan_pairs (v : Vexone) (k : FanId) (f : Fan → Fan) : (v.modFan k f).pairs = v.pairs := rfl
@[simp] theorem Vexone.modFan_due (v : Vexone) (k : FanId) (f : Fan → Fan) : (v.modFan k f).due = v.due := rfl
@[simp] theorem Vexone.modFan_hal (v : Vexone) (k : FanId) (f : Fan → Fan) : (v.modFan k f).hal = v.hal := rfl
@[simp] theorem Vexone.modFan_portA (v : Vexone) (k : FanId) (f : Fan → Fan) : (v.modFan k f).portA = v.portA := rfl
@[simp] theorem Vexone.modFan_portB (v : Vexone) (k : FanId) (f : Fan → Fan) : (v.modFan k f).portB = v.portB := rfl
@[simp] theorem Vexone.modFan_ms (v : Vexone) (k : FanId) (f : Fan → Fan) : (v.modFan k f).ms = v.ms := rfl
@[simp] theorem Vexone.modFan_ops (v : Vexone) (k : FanId) (f : Fan → Fan) : (v.modFan k f).ops = v.ops := rfl
@[simp] theorem Vexone.modFan_opSeq (v : Vexone) (k : FanId) (f : Fan → Fan) : (v.modFan k f).opSeq = v.opSeq := rfl
@[simp] theorem Vexone.modFan_reads (v : Vexone) (k : FanId) (f : Fan → Fan) : (v.modFan k f).reads = v.reads := rfl
@[simp] theorem Vexone.modFan_nextRid (v : Vexone) (k : FanId) (f : Fan → Fan) : (v.modFan k f).nextRid = v.nextRid := rfl
@[simp] theorem Vexone.modFan_out (v : Vexone) (k : FanId) (f : Fan → Fan) : (v.modFan k f).out = v.out := rfl
@[simp] theorem Vexone.modFan_img (v : Vexone) (k : FanId) (f : Fan → Fan) : (v.modFan k f).img = v.img := rfl
@[simp] theorem Vexone.modFan_sch (v : Vexone) (k : FanId) (f : Fan → Fan) : (v.modFan k f).sch = v.sch := rfl
@[simp] theorem Vexone.modFan_segs (v : Vexone) (k : FanId) (f : Fan → Fan) : (v.modFan k f).segs = v.segs := rfl
@[simp] theorem Vexone.modFan_lanes (v : Vexone) (k : FanId) (f : Fan → Fan) : (v.modFan k f).lanes = v.lanes := rfl
@[simp] theorem Vexone.modFan_sess (v : Vexone) (k : FanId) (f : Fan → Fan) : (v.modFan k f).sess = v.sess := rfl
@[simp] theorem Vexone.modFan_busCap (v : Vexone) (k : FanId) (f : Fan → Fan) : (v.modFan k f).busCap = v.busCap := rfl
@[simp] theorem Vexone.modFan_cx (v : Vexone) (k : FanId) (f : Fan → Fan) : (v.modFan k f).cx = v.cx := rfl
@[simp] theorem Vexone.modFan_fb (v : Vexone) (k : FanId) (f : Fan → Fan) : (v.modFan k f).fb = v.fb := rfl
@[simp] theorem Vexone.modFan_ax (v : Vexone) (k : FanId) (f : Fan → Fan) : (v.modFan k f).ax = v.ax := rfl
@[simp] theorem Vexone.modFan_motors (v : Vexone) (k : FanId) (f : Fan → Fan) : (v.modFan k f).motors = v.motors := rfl
@[simp] theorem Vexone.modFan_mbus (v : Vexone) (k : FanId) (f : Fan → Fan) : (v.modFan k f).mbus = v.mbus := rfl
@[simp] theorem Vexone.modFan_eg (v : Vexone) (k : FanId) (f : Fan → Fan) : (v.modFan k f).eg = v.eg := rfl
@[simp] theorem Vexone.modFan_res (v : Vexone) (k : FanId) (f : Fan → Fan) : (v.modFan k f).res = v.res := rfl
@[simp] theorem Vexone.modFan_mains (v : Vexone) (k : FanId) (f : Fan → Fan) : (v.modFan k f).mains = v.mains := rfl
@[simp] theorem Vexone.modFan_th (v : Vexone) (k : FanId) (f : Fan → Fan) : (v.modFan k f).th = v.th := rfl
@[simp] theorem Vexone.modFan_fwd (v : Vexone) (k : FanId) (f : Fan → Fan) : (v.modFan k f).fwd = v.fwd := rfl
@[simp] theorem Vexone.modFan_rack (v : Vexone) (k : FanId) (f : Fan → Fan) : (v.modFan k f).rack = v.rack := rfl
@[simp] theorem Vexone.modFan_diags (v : Vexone) (k : FanId) (f : Fan → Fan) : (v.modFan k f).diags = v.diags := rfl
@[simp] theorem Vexone.modFan_lin (v : Vexone) (k : FanId) (f : Fan → Fan) : (v.modFan k f).lin = v.lin := rfl
@[simp] theorem Vexone.modFan_dcnt (v : Vexone) (k : FanId) (f : Fan → Fan) : (v.modFan k f).dcnt = v.dcnt := rfl
@[simp] theorem Vexone.modFan_shown (v : Vexone) (k : FanId) (f : Fan → Fan) : (v.modFan k f).shown = v.shown := rfl
@[simp] theorem Vexone.modFan_later (v : Vexone) (k : FanId) (f : Fan → Fan) : (v.modFan k f).later = v.later := rfl
@[simp] theorem Vexone.modFan_fresh (v : Vexone) (k : FanId) (f : Fan → Fan) : (v.modFan k f).fresh = v.fresh := rfl

@[simp] theorem Vexone.modCx_pw (v : Vexone) (f : Cx → Cx) : (v.modCx f).pw = v.pw := rfl
@[simp] theorem Vexone.modCx_clk (v : Vexone) (f : Cx → Cx) : (v.modCx f).clk = v.clk := rfl
@[simp] theorem Vexone.modCx_fr (v : Vexone) (f : Cx → Cx) : (v.modCx f).fr = v.fr := rfl
@[simp] theorem Vexone.modCx_regs (v : Vexone) (f : Cx → Cx) : (v.modCx f).regs = v.regs := rfl
@[simp] theorem Vexone.modCx_fnEn (v : Vexone) (f : Cx → Cx) : (v.modCx f).fnEn = v.fnEn := rfl
@[simp] theorem Vexone.modCx_faults (v : Vexone) (f : Cx → Cx) : (v.modCx f).faults = v.faults := rfl
@[simp] theorem Vexone.modCx_pairs (v : Vexone) (f : Cx → Cx) : (v.modCx f).pairs = v.pairs := rfl
@[simp] theorem Vexone.modCx_due (v : Vexone) (f : Cx → Cx) : (v.modCx f).due = v.due := rfl
@[simp] theorem Vexone.modCx_hal (v : Vexone) (f : Cx → Cx) : (v.modCx f).hal = v.hal := rfl
@[simp] theorem Vexone.modCx_portA (v : Vexone) (f : Cx → Cx) : (v.modCx f).portA = v.portA := rfl
@[simp] theorem Vexone.modCx_portB (v : Vexone) (f : Cx → Cx) : (v.modCx f).portB = v.portB := rfl
@[simp] theorem Vexone.modCx_ms (v : Vexone) (f : Cx → Cx) : (v.modCx f).ms = v.ms := rfl
@[simp] theorem Vexone.modCx_ops (v : Vexone) (f : Cx → Cx) : (v.modCx f).ops = v.ops := rfl
@[simp] theorem Vexone.modCx_opSeq (v : Vexone) (f : Cx → Cx) : (v.modCx f).opSeq = v.opSeq := rfl
@[simp] theorem Vexone.modCx_reads (v : Vexone) (f : Cx → Cx) : (v.modCx f).reads = v.reads := rfl
@[simp] theorem Vexone.modCx_nextRid (v : Vexone) (f : Cx → Cx) : (v.modCx f).nextRid = v.nextRid := rfl
@[simp] theorem Vexone.modCx_out (v : Vexone) (f : Cx → Cx) : (v.modCx f).out = v.out := rfl
@[simp] theorem Vexone.modCx_img (v : Vexone) (f : Cx → Cx) : (v.modCx f).img = v.img := rfl
@[simp] theorem Vexone.modCx_sch (v : Vexone) (f : Cx → Cx) : (v.modCx f).sch = v.sch := rfl
@[simp] theorem Vexone.modCx_segs (v : Vexone) (f : Cx → Cx) : (v.modCx f).segs = v.segs := rfl
@[simp] theorem Vexone.modCx_lanes (v : Vexone) (f : Cx → Cx) : (v.modCx f).lanes = v.lanes := rfl
@[simp] theorem Vexone.modCx_sess (v : Vexone) (f : Cx → Cx) : (v.modCx f).sess = v.sess := rfl
@[simp] theorem Vexone.modCx_busCap (v : Vexone) (f : Cx → Cx) : (v.modCx f).busCap = v.busCap := rfl
@[simp] theorem Vexone.modCx_fb (v : Vexone) (f : Cx → Cx) : (v.modCx f).fb = v.fb := rfl
@[simp] theorem Vexone.modCx_ax (v : Vexone) (f : Cx → Cx) : (v.modCx f).ax = v.ax := rfl
@[simp] theorem Vexone.modCx_motors (v : Vexone) (f : Cx → Cx) : (v.modCx f).motors = v.motors := rfl
@[simp] theorem Vexone.modCx_mbus (v : Vexone) (f : Cx → Cx) : (v.modCx f).mbus = v.mbus := rfl
@[simp] theorem Vexone.modCx_eg (v : Vexone) (f : Cx → Cx) : (v.modCx f).eg = v.eg := rfl
@[simp] theorem Vexone.modCx_res (v : Vexone) (f : Cx → Cx) : (v.modCx f).res = v.res := rfl
@[simp] theorem Vexone.modCx_mains (v : Vexone) (f : Cx → Cx) : (v.modCx f).mains = v.mains := rfl
@[simp] theorem Vexone.modCx_th (v : Vexone) (f : Cx → Cx) : (v.modCx f).th = v.th := rfl
@[simp] theorem Vexone.modCx_fans (v : Vexone) (f : Cx → Cx) : (v.modCx f).fans = v.fans := rfl
@[simp] theorem Vexone.modCx_fwd (v : Vexone) (f : Cx → Cx) : (v.modCx f).fwd = v.fwd := rfl
@[simp] theorem Vexone.modCx_rack (v : Vexone) (f : Cx → Cx) : (v.modCx f).rack = v.rack := rfl
@[simp] theorem Vexone.modCx_diags (v : Vexone) (f : Cx → Cx) : (v.modCx f).diags = v.diags := rfl
@[simp] theorem Vexone.modCx_lin (v : Vexone) (f : Cx → Cx) : (v.modCx f).lin = v.lin := rfl
@[simp] theorem Vexone.modCx_dcnt (v : Vexone) (f : Cx → Cx) : (v.modCx f).dcnt = v.dcnt := rfl
@[simp] theorem Vexone.modCx_shown (v : Vexone) (f : Cx → Cx) : (v.modCx f).shown = v.shown := rfl
@[simp] theorem Vexone.modCx_later (v : Vexone) (f : Cx → Cx) : (v.modCx f).later = v.later := rfl
@[simp] theorem Vexone.modCx_fresh (v : Vexone) (f : Cx → Cx) : (v.modCx f).fresh = v.fresh := rfl

@[simp] theorem Vexone.ignoreWrites_pw (v : Vexone) (n : Nat) : (v.ignoreWrites n).pw = v.pw := rfl
@[simp] theorem Vexone.ignoreWrites_clk (v : Vexone) (n : Nat) : (v.ignoreWrites n).clk = v.clk := rfl
@[simp] theorem Vexone.ignoreWrites_fr (v : Vexone) (n : Nat) : (v.ignoreWrites n).fr = v.fr := rfl
@[simp] theorem Vexone.ignoreWrites_regs (v : Vexone) (n : Nat) : (v.ignoreWrites n).regs = v.regs := rfl
@[simp] theorem Vexone.ignoreWrites_fnEn (v : Vexone) (n : Nat) : (v.ignoreWrites n).fnEn = v.fnEn := rfl
@[simp] theorem Vexone.ignoreWrites_faults (v : Vexone) (n : Nat) : (v.ignoreWrites n).faults = v.faults := rfl
@[simp] theorem Vexone.ignoreWrites_pairs (v : Vexone) (n : Nat) : (v.ignoreWrites n).pairs = v.pairs := rfl
@[simp] theorem Vexone.ignoreWrites_due (v : Vexone) (n : Nat) : (v.ignoreWrites n).due = v.due := rfl
@[simp] theorem Vexone.ignoreWrites_portA (v : Vexone) (n : Nat) : (v.ignoreWrites n).portA = v.portA := rfl
@[simp] theorem Vexone.ignoreWrites_portB (v : Vexone) (n : Nat) : (v.ignoreWrites n).portB = v.portB := rfl
@[simp] theorem Vexone.ignoreWrites_ms (v : Vexone) (n : Nat) : (v.ignoreWrites n).ms = v.ms := rfl
@[simp] theorem Vexone.ignoreWrites_ops (v : Vexone) (n : Nat) : (v.ignoreWrites n).ops = v.ops := rfl
@[simp] theorem Vexone.ignoreWrites_opSeq (v : Vexone) (n : Nat) : (v.ignoreWrites n).opSeq = v.opSeq := rfl
@[simp] theorem Vexone.ignoreWrites_reads (v : Vexone) (n : Nat) : (v.ignoreWrites n).reads = v.reads := rfl
@[simp] theorem Vexone.ignoreWrites_nextRid (v : Vexone) (n : Nat) : (v.ignoreWrites n).nextRid = v.nextRid := rfl
@[simp] theorem Vexone.ignoreWrites_out (v : Vexone) (n : Nat) : (v.ignoreWrites n).out = v.out := rfl
@[simp] theorem Vexone.ignoreWrites_img (v : Vexone) (n : Nat) : (v.ignoreWrites n).img = v.img := rfl
@[simp] theorem Vexone.ignoreWrites_sch (v : Vexone) (n : Nat) : (v.ignoreWrites n).sch = v.sch := rfl
@[simp] theorem Vexone.ignoreWrites_segs (v : Vexone) (n : Nat) : (v.ignoreWrites n).segs = v.segs := rfl
@[simp] theorem Vexone.ignoreWrites_lanes (v : Vexone) (n : Nat) : (v.ignoreWrites n).lanes = v.lanes := rfl
@[simp] theorem Vexone.ignoreWrites_sess (v : Vexone) (n : Nat) : (v.ignoreWrites n).sess = v.sess := rfl
@[simp] theorem Vexone.ignoreWrites_busCap (v : Vexone) (n : Nat) : (v.ignoreWrites n).busCap = v.busCap := rfl
@[simp] theorem Vexone.ignoreWrites_cx (v : Vexone) (n : Nat) : (v.ignoreWrites n).cx = v.cx := rfl
@[simp] theorem Vexone.ignoreWrites_fb (v : Vexone) (n : Nat) : (v.ignoreWrites n).fb = v.fb := rfl
@[simp] theorem Vexone.ignoreWrites_ax (v : Vexone) (n : Nat) : (v.ignoreWrites n).ax = v.ax := rfl
@[simp] theorem Vexone.ignoreWrites_motors (v : Vexone) (n : Nat) : (v.ignoreWrites n).motors = v.motors := rfl
@[simp] theorem Vexone.ignoreWrites_mbus (v : Vexone) (n : Nat) : (v.ignoreWrites n).mbus = v.mbus := rfl
@[simp] theorem Vexone.ignoreWrites_eg (v : Vexone) (n : Nat) : (v.ignoreWrites n).eg = v.eg := rfl
@[simp] theorem Vexone.ignoreWrites_res (v : Vexone) (n : Nat) : (v.ignoreWrites n).res = v.res := rfl
@[simp] theorem Vexone.ignoreWrites_mains (v : Vexone) (n : Nat) : (v.ignoreWrites n).mains = v.mains := rfl
@[simp] theorem Vexone.ignoreWrites_th (v : Vexone) (n : Nat) : (v.ignoreWrites n).th = v.th := rfl
@[simp] theorem Vexone.ignoreWrites_fans (v : Vexone) (n : Nat) : (v.ignoreWrites n).fans = v.fans := rfl
@[simp] theorem Vexone.ignoreWrites_fwd (v : Vexone) (n : Nat) : (v.ignoreWrites n).fwd = v.fwd := rfl
@[simp] theorem Vexone.ignoreWrites_rack (v : Vexone) (n : Nat) : (v.ignoreWrites n).rack = v.rack := rfl
@[simp] theorem Vexone.ignoreWrites_diags (v : Vexone) (n : Nat) : (v.ignoreWrites n).diags = v.diags := rfl
@[simp] theorem Vexone.ignoreWrites_lin (v : Vexone) (n : Nat) : (v.ignoreWrites n).lin = v.lin := rfl
@[simp] theorem Vexone.ignoreWrites_dcnt (v : Vexone) (n : Nat) : (v.ignoreWrites n).dcnt = v.dcnt := rfl
@[simp] theorem Vexone.ignoreWrites_shown (v : Vexone) (n : Nat) : (v.ignoreWrites n).shown = v.shown := rfl
@[simp] theorem Vexone.ignoreWrites_later (v : Vexone) (n : Nat) : (v.ignoreWrites n).later = v.later := rfl
@[simp] theorem Vexone.ignoreWrites_fresh (v : Vexone) (n : Nat) : (v.ignoreWrites n).fresh = v.fresh := rfl

@[simp] theorem Vexone.setHal_pw (v : Vexone) (h : HalState) : (v.setHal h).pw = v.pw := rfl
@[simp] theorem Vexone.setHal_clk (v : Vexone) (h : HalState) : (v.setHal h).clk = v.clk := rfl
@[simp] theorem Vexone.setHal_fr (v : Vexone) (h : HalState) : (v.setHal h).fr = v.fr := rfl
@[simp] theorem Vexone.setHal_regs (v : Vexone) (h : HalState) : (v.setHal h).regs = v.regs := rfl
@[simp] theorem Vexone.setHal_fnEn (v : Vexone) (h : HalState) : (v.setHal h).fnEn = v.fnEn := rfl
@[simp] theorem Vexone.setHal_faults (v : Vexone) (h : HalState) : (v.setHal h).faults = v.faults := rfl
@[simp] theorem Vexone.setHal_pairs (v : Vexone) (h : HalState) : (v.setHal h).pairs = v.pairs := rfl
@[simp] theorem Vexone.setHal_due (v : Vexone) (h : HalState) : (v.setHal h).due = v.due := rfl
@[simp] theorem Vexone.setHal_portA (v : Vexone) (h : HalState) : (v.setHal h).portA = v.portA := rfl
@[simp] theorem Vexone.setHal_portB (v : Vexone) (h : HalState) : (v.setHal h).portB = v.portB := rfl
@[simp] theorem Vexone.setHal_ms (v : Vexone) (h : HalState) : (v.setHal h).ms = v.ms := rfl
@[simp] theorem Vexone.setHal_ops (v : Vexone) (h : HalState) : (v.setHal h).ops = v.ops := rfl
@[simp] theorem Vexone.setHal_opSeq (v : Vexone) (h : HalState) : (v.setHal h).opSeq = v.opSeq := rfl
@[simp] theorem Vexone.setHal_reads (v : Vexone) (h : HalState) : (v.setHal h).reads = v.reads := rfl
@[simp] theorem Vexone.setHal_nextRid (v : Vexone) (h : HalState) : (v.setHal h).nextRid = v.nextRid := rfl
@[simp] theorem Vexone.setHal_out (v : Vexone) (h : HalState) : (v.setHal h).out = v.out := rfl
@[simp] theorem Vexone.setHal_img (v : Vexone) (h : HalState) : (v.setHal h).img = v.img := rfl
@[simp] theorem Vexone.setHal_sch (v : Vexone) (h : HalState) : (v.setHal h).sch = v.sch := rfl
@[simp] theorem Vexone.setHal_segs (v : Vexone) (h : HalState) : (v.setHal h).segs = v.segs := rfl
@[simp] theorem Vexone.setHal_lanes (v : Vexone) (h : HalState) : (v.setHal h).lanes = v.lanes := rfl
@[simp] theorem Vexone.setHal_sess (v : Vexone) (h : HalState) : (v.setHal h).sess = v.sess := rfl
@[simp] theorem Vexone.setHal_busCap (v : Vexone) (h : HalState) : (v.setHal h).busCap = v.busCap := rfl
@[simp] theorem Vexone.setHal_cx (v : Vexone) (h : HalState) : (v.setHal h).cx = v.cx := rfl
@[simp] theorem Vexone.setHal_fb (v : Vexone) (h : HalState) : (v.setHal h).fb = v.fb := rfl
@[simp] theorem Vexone.setHal_ax (v : Vexone) (h : HalState) : (v.setHal h).ax = v.ax := rfl
@[simp] theorem Vexone.setHal_motors (v : Vexone) (h : HalState) : (v.setHal h).motors = v.motors := rfl
@[simp] theorem Vexone.setHal_mbus (v : Vexone) (h : HalState) : (v.setHal h).mbus = v.mbus := rfl
@[simp] theorem Vexone.setHal_eg (v : Vexone) (h : HalState) : (v.setHal h).eg = v.eg := rfl
@[simp] theorem Vexone.setHal_res (v : Vexone) (h : HalState) : (v.setHal h).res = v.res := rfl
@[simp] theorem Vexone.setHal_mains (v : Vexone) (h : HalState) : (v.setHal h).mains = v.mains := rfl
@[simp] theorem Vexone.setHal_th (v : Vexone) (h : HalState) : (v.setHal h).th = v.th := rfl
@[simp] theorem Vexone.setHal_fans (v : Vexone) (h : HalState) : (v.setHal h).fans = v.fans := rfl
@[simp] theorem Vexone.setHal_fwd (v : Vexone) (h : HalState) : (v.setHal h).fwd = v.fwd := rfl
@[simp] theorem Vexone.setHal_rack (v : Vexone) (h : HalState) : (v.setHal h).rack = v.rack := rfl
@[simp] theorem Vexone.setHal_diags (v : Vexone) (h : HalState) : (v.setHal h).diags = v.diags := rfl
@[simp] theorem Vexone.setHal_lin (v : Vexone) (h : HalState) : (v.setHal h).lin = v.lin := rfl
@[simp] theorem Vexone.setHal_dcnt (v : Vexone) (h : HalState) : (v.setHal h).dcnt = v.dcnt := rfl
@[simp] theorem Vexone.setHal_shown (v : Vexone) (h : HalState) : (v.setHal h).shown = v.shown := rfl
@[simp] theorem Vexone.setHal_later (v : Vexone) (h : HalState) : (v.setHal h).later = v.later := rfl
@[simp] theorem Vexone.setHal_fresh (v : Vexone) (h : HalState) : (v.setHal h).fresh = v.fresh := rfl

@[simp] theorem Vexone.setFault_pw (v : Vexone) (e : FaultEntry) : (v.setFault e).pw = v.pw := rfl
@[simp] theorem Vexone.setFault_clk (v : Vexone) (e : FaultEntry) : (v.setFault e).clk = v.clk := rfl
@[simp] theorem Vexone.setFault_fr (v : Vexone) (e : FaultEntry) : (v.setFault e).fr = v.fr := rfl
@[simp] theorem Vexone.setFault_regs (v : Vexone) (e : FaultEntry) : (v.setFault e).regs = v.regs := rfl
@[simp] theorem Vexone.setFault_fnEn (v : Vexone) (e : FaultEntry) : (v.setFault e).fnEn = v.fnEn := rfl
@[simp] theorem Vexone.setFault_pairs (v : Vexone) (e : FaultEntry) : (v.setFault e).pairs = v.pairs := rfl
@[simp] theorem Vexone.setFault_due (v : Vexone) (e : FaultEntry) : (v.setFault e).due = v.due := rfl
@[simp] theorem Vexone.setFault_hal (v : Vexone) (e : FaultEntry) : (v.setFault e).hal = v.hal := rfl
@[simp] theorem Vexone.setFault_portA (v : Vexone) (e : FaultEntry) : (v.setFault e).portA = v.portA := rfl
@[simp] theorem Vexone.setFault_portB (v : Vexone) (e : FaultEntry) : (v.setFault e).portB = v.portB := rfl
@[simp] theorem Vexone.setFault_ms (v : Vexone) (e : FaultEntry) : (v.setFault e).ms = v.ms := rfl
@[simp] theorem Vexone.setFault_ops (v : Vexone) (e : FaultEntry) : (v.setFault e).ops = v.ops := rfl
@[simp] theorem Vexone.setFault_opSeq (v : Vexone) (e : FaultEntry) : (v.setFault e).opSeq = v.opSeq := rfl
@[simp] theorem Vexone.setFault_reads (v : Vexone) (e : FaultEntry) : (v.setFault e).reads = v.reads := rfl
@[simp] theorem Vexone.setFault_nextRid (v : Vexone) (e : FaultEntry) : (v.setFault e).nextRid = v.nextRid := rfl
@[simp] theorem Vexone.setFault_out (v : Vexone) (e : FaultEntry) : (v.setFault e).out = v.out := rfl
@[simp] theorem Vexone.setFault_img (v : Vexone) (e : FaultEntry) : (v.setFault e).img = v.img := rfl
@[simp] theorem Vexone.setFault_sch (v : Vexone) (e : FaultEntry) : (v.setFault e).sch = v.sch := rfl
@[simp] theorem Vexone.setFault_segs (v : Vexone) (e : FaultEntry) : (v.setFault e).segs = v.segs := rfl
@[simp] theorem Vexone.setFault_lanes (v : Vexone) (e : FaultEntry) : (v.setFault e).lanes = v.lanes := rfl
@[simp] theorem Vexone.setFault_sess (v : Vexone) (e : FaultEntry) : (v.setFault e).sess = v.sess := rfl
@[simp] theorem Vexone.setFault_busCap (v : Vexone) (e : FaultEntry) : (v.setFault e).busCap = v.busCap := rfl
@[simp] theorem Vexone.setFault_cx (v : Vexone) (e : FaultEntry) : (v.setFault e).cx = v.cx := rfl
@[simp] theorem Vexone.setFault_fb (v : Vexone) (e : FaultEntry) : (v.setFault e).fb = v.fb := rfl
@[simp] theorem Vexone.setFault_ax (v : Vexone) (e : FaultEntry) : (v.setFault e).ax = v.ax := rfl
@[simp] theorem Vexone.setFault_motors (v : Vexone) (e : FaultEntry) : (v.setFault e).motors = v.motors := rfl
@[simp] theorem Vexone.setFault_mbus (v : Vexone) (e : FaultEntry) : (v.setFault e).mbus = v.mbus := rfl
@[simp] theorem Vexone.setFault_eg (v : Vexone) (e : FaultEntry) : (v.setFault e).eg = v.eg := rfl
@[simp] theorem Vexone.setFault_res (v : Vexone) (e : FaultEntry) : (v.setFault e).res = v.res := rfl
@[simp] theorem Vexone.setFault_mains (v : Vexone) (e : FaultEntry) : (v.setFault e).mains = v.mains := rfl
@[simp] theorem Vexone.setFault_th (v : Vexone) (e : FaultEntry) : (v.setFault e).th = v.th := rfl
@[simp] theorem Vexone.setFault_fans (v : Vexone) (e : FaultEntry) : (v.setFault e).fans = v.fans := rfl
@[simp] theorem Vexone.setFault_fwd (v : Vexone) (e : FaultEntry) : (v.setFault e).fwd = v.fwd := rfl
@[simp] theorem Vexone.setFault_rack (v : Vexone) (e : FaultEntry) : (v.setFault e).rack = v.rack := rfl
@[simp] theorem Vexone.setFault_diags (v : Vexone) (e : FaultEntry) : (v.setFault e).diags = v.diags := rfl
@[simp] theorem Vexone.setFault_lin (v : Vexone) (e : FaultEntry) : (v.setFault e).lin = v.lin := rfl
@[simp] theorem Vexone.setFault_dcnt (v : Vexone) (e : FaultEntry) : (v.setFault e).dcnt = v.dcnt := rfl
@[simp] theorem Vexone.setFault_shown (v : Vexone) (e : FaultEntry) : (v.setFault e).shown = v.shown := rfl
@[simp] theorem Vexone.setFault_later (v : Vexone) (e : FaultEntry) : (v.setFault e).later = v.later := rfl
@[simp] theorem Vexone.setFault_fresh (v : Vexone) (e : FaultEntry) : (v.setFault e).fresh = v.fresh := rfl

@[simp] theorem Vexone.latchRaw_pw (v : Vexone) (c : Nat) (m : BitVec 16) : (v.latchRaw c m).pw = v.pw := rfl
@[simp] theorem Vexone.latchRaw_clk (v : Vexone) (c : Nat) (m : BitVec 16) : (v.latchRaw c m).clk = v.clk := rfl
@[simp] theorem Vexone.latchRaw_fr (v : Vexone) (c : Nat) (m : BitVec 16) : (v.latchRaw c m).fr = v.fr := rfl
@[simp] theorem Vexone.latchRaw_regs (v : Vexone) (c : Nat) (m : BitVec 16) : (v.latchRaw c m).regs = v.regs := rfl
@[simp] theorem Vexone.latchRaw_fnEn (v : Vexone) (c : Nat) (m : BitVec 16) : (v.latchRaw c m).fnEn = v.fnEn := rfl
@[simp] theorem Vexone.latchRaw_pairs (v : Vexone) (c : Nat) (m : BitVec 16) : (v.latchRaw c m).pairs = v.pairs := rfl
@[simp] theorem Vexone.latchRaw_hal (v : Vexone) (c : Nat) (m : BitVec 16) : (v.latchRaw c m).hal = v.hal := rfl
@[simp] theorem Vexone.latchRaw_portA (v : Vexone) (c : Nat) (m : BitVec 16) : (v.latchRaw c m).portA = v.portA := rfl
@[simp] theorem Vexone.latchRaw_portB (v : Vexone) (c : Nat) (m : BitVec 16) : (v.latchRaw c m).portB = v.portB := rfl
@[simp] theorem Vexone.latchRaw_ms (v : Vexone) (c : Nat) (m : BitVec 16) : (v.latchRaw c m).ms = v.ms := rfl
@[simp] theorem Vexone.latchRaw_ops (v : Vexone) (c : Nat) (m : BitVec 16) : (v.latchRaw c m).ops = v.ops := rfl
@[simp] theorem Vexone.latchRaw_opSeq (v : Vexone) (c : Nat) (m : BitVec 16) : (v.latchRaw c m).opSeq = v.opSeq := rfl
@[simp] theorem Vexone.latchRaw_reads (v : Vexone) (c : Nat) (m : BitVec 16) : (v.latchRaw c m).reads = v.reads := rfl
@[simp] theorem Vexone.latchRaw_nextRid (v : Vexone) (c : Nat) (m : BitVec 16) : (v.latchRaw c m).nextRid = v.nextRid := rfl
@[simp] theorem Vexone.latchRaw_out (v : Vexone) (c : Nat) (m : BitVec 16) : (v.latchRaw c m).out = v.out := rfl
@[simp] theorem Vexone.latchRaw_img (v : Vexone) (c : Nat) (m : BitVec 16) : (v.latchRaw c m).img = v.img := rfl
@[simp] theorem Vexone.latchRaw_sch (v : Vexone) (c : Nat) (m : BitVec 16) : (v.latchRaw c m).sch = v.sch := rfl
@[simp] theorem Vexone.latchRaw_segs (v : Vexone) (c : Nat) (m : BitVec 16) : (v.latchRaw c m).segs = v.segs := rfl
@[simp] theorem Vexone.latchRaw_lanes (v : Vexone) (c : Nat) (m : BitVec 16) : (v.latchRaw c m).lanes = v.lanes := rfl
@[simp] theorem Vexone.latchRaw_sess (v : Vexone) (c : Nat) (m : BitVec 16) : (v.latchRaw c m).sess = v.sess := rfl
@[simp] theorem Vexone.latchRaw_busCap (v : Vexone) (c : Nat) (m : BitVec 16) : (v.latchRaw c m).busCap = v.busCap := rfl
@[simp] theorem Vexone.latchRaw_cx (v : Vexone) (c : Nat) (m : BitVec 16) : (v.latchRaw c m).cx = v.cx := rfl
@[simp] theorem Vexone.latchRaw_fb (v : Vexone) (c : Nat) (m : BitVec 16) : (v.latchRaw c m).fb = v.fb := rfl
@[simp] theorem Vexone.latchRaw_ax (v : Vexone) (c : Nat) (m : BitVec 16) : (v.latchRaw c m).ax = v.ax := rfl
@[simp] theorem Vexone.latchRaw_motors (v : Vexone) (c : Nat) (m : BitVec 16) : (v.latchRaw c m).motors = v.motors := rfl
@[simp] theorem Vexone.latchRaw_mbus (v : Vexone) (c : Nat) (m : BitVec 16) : (v.latchRaw c m).mbus = v.mbus := rfl
@[simp] theorem Vexone.latchRaw_eg (v : Vexone) (c : Nat) (m : BitVec 16) : (v.latchRaw c m).eg = v.eg := rfl
@[simp] theorem Vexone.latchRaw_res (v : Vexone) (c : Nat) (m : BitVec 16) : (v.latchRaw c m).res = v.res := rfl
@[simp] theorem Vexone.latchRaw_mains (v : Vexone) (c : Nat) (m : BitVec 16) : (v.latchRaw c m).mains = v.mains := rfl
@[simp] theorem Vexone.latchRaw_th (v : Vexone) (c : Nat) (m : BitVec 16) : (v.latchRaw c m).th = v.th := rfl
@[simp] theorem Vexone.latchRaw_fans (v : Vexone) (c : Nat) (m : BitVec 16) : (v.latchRaw c m).fans = v.fans := rfl
@[simp] theorem Vexone.latchRaw_fwd (v : Vexone) (c : Nat) (m : BitVec 16) : (v.latchRaw c m).fwd = v.fwd := rfl
@[simp] theorem Vexone.latchRaw_rack (v : Vexone) (c : Nat) (m : BitVec 16) : (v.latchRaw c m).rack = v.rack := rfl
@[simp] theorem Vexone.latchRaw_diags (v : Vexone) (c : Nat) (m : BitVec 16) : (v.latchRaw c m).diags = v.diags := rfl
@[simp] theorem Vexone.latchRaw_lin (v : Vexone) (c : Nat) (m : BitVec 16) : (v.latchRaw c m).lin = v.lin := rfl
@[simp] theorem Vexone.latchRaw_dcnt (v : Vexone) (c : Nat) (m : BitVec 16) : (v.latchRaw c m).dcnt = v.dcnt := rfl
@[simp] theorem Vexone.latchRaw_shown (v : Vexone) (c : Nat) (m : BitVec 16) : (v.latchRaw c m).shown = v.shown := rfl
@[simp] theorem Vexone.latchRaw_later (v : Vexone) (c : Nat) (m : BitVec 16) : (v.latchRaw c m).later = v.later := rfl
@[simp] theorem Vexone.latchRaw_fresh (v : Vexone) (c : Nat) (m : BitVec 16) : (v.latchRaw c m).fresh = v.fresh := rfl

@[simp] theorem Vexone.pairWrite_pw (v : Vexone) (i : PairId) (a b : Option Int) : (v.pairWrite i a b).pw = v.pw := rfl
@[simp] theorem Vexone.pairWrite_clk (v : Vexone) (i : PairId) (a b : Option Int) : (v.pairWrite i a b).clk = v.clk := rfl
@[simp] theorem Vexone.pairWrite_fr (v : Vexone) (i : PairId) (a b : Option Int) : (v.pairWrite i a b).fr = v.fr := rfl
@[simp] theorem Vexone.pairWrite_regs (v : Vexone) (i : PairId) (a b : Option Int) : (v.pairWrite i a b).regs = v.regs := rfl
@[simp] theorem Vexone.pairWrite_fnEn (v : Vexone) (i : PairId) (a b : Option Int) : (v.pairWrite i a b).fnEn = v.fnEn := rfl
@[simp] theorem Vexone.pairWrite_faults (v : Vexone) (i : PairId) (a b : Option Int) : (v.pairWrite i a b).faults = v.faults := rfl
@[simp] theorem Vexone.pairWrite_due (v : Vexone) (i : PairId) (a b : Option Int) : (v.pairWrite i a b).due = v.due := rfl
@[simp] theorem Vexone.pairWrite_hal (v : Vexone) (i : PairId) (a b : Option Int) : (v.pairWrite i a b).hal = v.hal := rfl
@[simp] theorem Vexone.pairWrite_portA (v : Vexone) (i : PairId) (a b : Option Int) : (v.pairWrite i a b).portA = v.portA := rfl
@[simp] theorem Vexone.pairWrite_portB (v : Vexone) (i : PairId) (a b : Option Int) : (v.pairWrite i a b).portB = v.portB := rfl
@[simp] theorem Vexone.pairWrite_ms (v : Vexone) (i : PairId) (a b : Option Int) : (v.pairWrite i a b).ms = v.ms := rfl
@[simp] theorem Vexone.pairWrite_ops (v : Vexone) (i : PairId) (a b : Option Int) : (v.pairWrite i a b).ops = v.ops := rfl
@[simp] theorem Vexone.pairWrite_opSeq (v : Vexone) (i : PairId) (a b : Option Int) : (v.pairWrite i a b).opSeq = v.opSeq := rfl
@[simp] theorem Vexone.pairWrite_reads (v : Vexone) (i : PairId) (a b : Option Int) : (v.pairWrite i a b).reads = v.reads := rfl
@[simp] theorem Vexone.pairWrite_nextRid (v : Vexone) (i : PairId) (a b : Option Int) : (v.pairWrite i a b).nextRid = v.nextRid := rfl
@[simp] theorem Vexone.pairWrite_out (v : Vexone) (i : PairId) (a b : Option Int) : (v.pairWrite i a b).out = v.out := rfl
@[simp] theorem Vexone.pairWrite_img (v : Vexone) (i : PairId) (a b : Option Int) : (v.pairWrite i a b).img = v.img := rfl
@[simp] theorem Vexone.pairWrite_sch (v : Vexone) (i : PairId) (a b : Option Int) : (v.pairWrite i a b).sch = v.sch := rfl
@[simp] theorem Vexone.pairWrite_segs (v : Vexone) (i : PairId) (a b : Option Int) : (v.pairWrite i a b).segs = v.segs := rfl
@[simp] theorem Vexone.pairWrite_lanes (v : Vexone) (i : PairId) (a b : Option Int) : (v.pairWrite i a b).lanes = v.lanes := rfl
@[simp] theorem Vexone.pairWrite_sess (v : Vexone) (i : PairId) (a b : Option Int) : (v.pairWrite i a b).sess = v.sess := rfl
@[simp] theorem Vexone.pairWrite_busCap (v : Vexone) (i : PairId) (a b : Option Int) : (v.pairWrite i a b).busCap = v.busCap := rfl
@[simp] theorem Vexone.pairWrite_cx (v : Vexone) (i : PairId) (a b : Option Int) : (v.pairWrite i a b).cx = v.cx := rfl
@[simp] theorem Vexone.pairWrite_fb (v : Vexone) (i : PairId) (a b : Option Int) : (v.pairWrite i a b).fb = v.fb := rfl
@[simp] theorem Vexone.pairWrite_ax (v : Vexone) (i : PairId) (a b : Option Int) : (v.pairWrite i a b).ax = v.ax := rfl
@[simp] theorem Vexone.pairWrite_motors (v : Vexone) (i : PairId) (a b : Option Int) : (v.pairWrite i a b).motors = v.motors := rfl
@[simp] theorem Vexone.pairWrite_mbus (v : Vexone) (i : PairId) (a b : Option Int) : (v.pairWrite i a b).mbus = v.mbus := rfl
@[simp] theorem Vexone.pairWrite_eg (v : Vexone) (i : PairId) (a b : Option Int) : (v.pairWrite i a b).eg = v.eg := rfl
@[simp] theorem Vexone.pairWrite_res (v : Vexone) (i : PairId) (a b : Option Int) : (v.pairWrite i a b).res = v.res := rfl
@[simp] theorem Vexone.pairWrite_mains (v : Vexone) (i : PairId) (a b : Option Int) : (v.pairWrite i a b).mains = v.mains := rfl
@[simp] theorem Vexone.pairWrite_th (v : Vexone) (i : PairId) (a b : Option Int) : (v.pairWrite i a b).th = v.th := rfl
@[simp] theorem Vexone.pairWrite_fans (v : Vexone) (i : PairId) (a b : Option Int) : (v.pairWrite i a b).fans = v.fans := rfl
@[simp] theorem Vexone.pairWrite_fwd (v : Vexone) (i : PairId) (a b : Option Int) : (v.pairWrite i a b).fwd = v.fwd := rfl
@[simp] theorem Vexone.pairWrite_rack (v : Vexone) (i : PairId) (a b : Option Int) : (v.pairWrite i a b).rack = v.rack := rfl
@[simp] theorem Vexone.pairWrite_diags (v : Vexone) (i : PairId) (a b : Option Int) : (v.pairWrite i a b).diags = v.diags := rfl
@[simp] theorem Vexone.pairWrite_lin (v : Vexone) (i : PairId) (a b : Option Int) : (v.pairWrite i a b).lin = v.lin := rfl
@[simp] theorem Vexone.pairWrite_dcnt (v : Vexone) (i : PairId) (a b : Option Int) : (v.pairWrite i a b).dcnt = v.dcnt := rfl
@[simp] theorem Vexone.pairWrite_shown (v : Vexone) (i : PairId) (a b : Option Int) : (v.pairWrite i a b).shown = v.shown := rfl
@[simp] theorem Vexone.pairWrite_later (v : Vexone) (i : PairId) (a b : Option Int) : (v.pairWrite i a b).later = v.later := rfl
@[simp] theorem Vexone.pairWrite_fresh (v : Vexone) (i : PairId) (a b : Option Int) : (v.pairWrite i a b).fresh = v.fresh := rfl

@[simp] theorem Vexone.pairCommit_pw (v : Vexone) (i : PairId) : (v.pairCommit i).pw = v.pw := rfl
@[simp] theorem Vexone.pairCommit_clk (v : Vexone) (i : PairId) : (v.pairCommit i).clk = v.clk := rfl
@[simp] theorem Vexone.pairCommit_fr (v : Vexone) (i : PairId) : (v.pairCommit i).fr = v.fr := rfl
@[simp] theorem Vexone.pairCommit_regs (v : Vexone) (i : PairId) : (v.pairCommit i).regs = v.regs := rfl
@[simp] theorem Vexone.pairCommit_fnEn (v : Vexone) (i : PairId) : (v.pairCommit i).fnEn = v.fnEn := rfl
@[simp] theorem Vexone.pairCommit_faults (v : Vexone) (i : PairId) : (v.pairCommit i).faults = v.faults := rfl
@[simp] theorem Vexone.pairCommit_due (v : Vexone) (i : PairId) : (v.pairCommit i).due = v.due := rfl
@[simp] theorem Vexone.pairCommit_hal (v : Vexone) (i : PairId) : (v.pairCommit i).hal = v.hal := rfl
@[simp] theorem Vexone.pairCommit_portA (v : Vexone) (i : PairId) : (v.pairCommit i).portA = v.portA := rfl
@[simp] theorem Vexone.pairCommit_portB (v : Vexone) (i : PairId) : (v.pairCommit i).portB = v.portB := rfl
@[simp] theorem Vexone.pairCommit_ms (v : Vexone) (i : PairId) : (v.pairCommit i).ms = v.ms := rfl
@[simp] theorem Vexone.pairCommit_ops (v : Vexone) (i : PairId) : (v.pairCommit i).ops = v.ops := rfl
@[simp] theorem Vexone.pairCommit_opSeq (v : Vexone) (i : PairId) : (v.pairCommit i).opSeq = v.opSeq := rfl
@[simp] theorem Vexone.pairCommit_reads (v : Vexone) (i : PairId) : (v.pairCommit i).reads = v.reads := rfl
@[simp] theorem Vexone.pairCommit_nextRid (v : Vexone) (i : PairId) : (v.pairCommit i).nextRid = v.nextRid := rfl
@[simp] theorem Vexone.pairCommit_out (v : Vexone) (i : PairId) : (v.pairCommit i).out = v.out := rfl
@[simp] theorem Vexone.pairCommit_img (v : Vexone) (i : PairId) : (v.pairCommit i).img = v.img := rfl
@[simp] theorem Vexone.pairCommit_sch (v : Vexone) (i : PairId) : (v.pairCommit i).sch = v.sch := rfl
@[simp] theorem Vexone.pairCommit_segs (v : Vexone) (i : PairId) : (v.pairCommit i).segs = v.segs := rfl
@[simp] theorem Vexone.pairCommit_lanes (v : Vexone) (i : PairId) : (v.pairCommit i).lanes = v.lanes := rfl
@[simp] theorem Vexone.pairCommit_sess (v : Vexone) (i : PairId) : (v.pairCommit i).sess = v.sess := rfl
@[simp] theorem Vexone.pairCommit_busCap (v : Vexone) (i : PairId) : (v.pairCommit i).busCap = v.busCap := rfl
@[simp] theorem Vexone.pairCommit_cx (v : Vexone) (i : PairId) : (v.pairCommit i).cx = v.cx := rfl
@[simp] theorem Vexone.pairCommit_fb (v : Vexone) (i : PairId) : (v.pairCommit i).fb = v.fb := rfl
@[simp] theorem Vexone.pairCommit_ax (v : Vexone) (i : PairId) : (v.pairCommit i).ax = v.ax := rfl
@[simp] theorem Vexone.pairCommit_motors (v : Vexone) (i : PairId) : (v.pairCommit i).motors = v.motors := rfl
@[simp] theorem Vexone.pairCommit_mbus (v : Vexone) (i : PairId) : (v.pairCommit i).mbus = v.mbus := rfl
@[simp] theorem Vexone.pairCommit_eg (v : Vexone) (i : PairId) : (v.pairCommit i).eg = v.eg := rfl
@[simp] theorem Vexone.pairCommit_res (v : Vexone) (i : PairId) : (v.pairCommit i).res = v.res := rfl
@[simp] theorem Vexone.pairCommit_mains (v : Vexone) (i : PairId) : (v.pairCommit i).mains = v.mains := rfl
@[simp] theorem Vexone.pairCommit_th (v : Vexone) (i : PairId) : (v.pairCommit i).th = v.th := rfl
@[simp] theorem Vexone.pairCommit_fans (v : Vexone) (i : PairId) : (v.pairCommit i).fans = v.fans := rfl
@[simp] theorem Vexone.pairCommit_fwd (v : Vexone) (i : PairId) : (v.pairCommit i).fwd = v.fwd := rfl
@[simp] theorem Vexone.pairCommit_rack (v : Vexone) (i : PairId) : (v.pairCommit i).rack = v.rack := rfl
@[simp] theorem Vexone.pairCommit_diags (v : Vexone) (i : PairId) : (v.pairCommit i).diags = v.diags := rfl
@[simp] theorem Vexone.pairCommit_lin (v : Vexone) (i : PairId) : (v.pairCommit i).lin = v.lin := rfl
@[simp] theorem Vexone.pairCommit_dcnt (v : Vexone) (i : PairId) : (v.pairCommit i).dcnt = v.dcnt := rfl
@[simp] theorem Vexone.pairCommit_shown (v : Vexone) (i : PairId) : (v.pairCommit i).shown = v.shown := rfl
@[simp] theorem Vexone.pairCommit_later (v : Vexone) (i : PairId) : (v.pairCommit i).later = v.later := rfl
@[simp] theorem Vexone.pairCommit_fresh (v : Vexone) (i : PairId) : (v.pairCommit i).fresh = v.fresh := rfl

@[simp] theorem Vexone.setPort_pw (v : Vexone) (p : Port) (x : PortState) : (v.setPort p x).pw = v.pw := by cases p <;> rfl
@[simp] theorem Vexone.setPort_clk (v : Vexone) (p : Port) (x : PortState) : (v.setPort p x).clk = v.clk := by cases p <;> rfl
@[simp] theorem Vexone.setPort_fr (v : Vexone) (p : Port) (x : PortState) : (v.setPort p x).fr = v.fr := by cases p <;> rfl
@[simp] theorem Vexone.setPort_regs (v : Vexone) (p : Port) (x : PortState) : (v.setPort p x).regs = v.regs := by cases p <;> rfl
@[simp] theorem Vexone.setPort_fnEn (v : Vexone) (p : Port) (x : PortState) : (v.setPort p x).fnEn = v.fnEn := by cases p <;> rfl
@[simp] theorem Vexone.setPort_faults (v : Vexone) (p : Port) (x : PortState) : (v.setPort p x).faults = v.faults := by cases p <;> rfl
@[simp] theorem Vexone.setPort_pairs (v : Vexone) (p : Port) (x : PortState) : (v.setPort p x).pairs = v.pairs := by cases p <;> rfl
@[simp] theorem Vexone.setPort_due (v : Vexone) (p : Port) (x : PortState) : (v.setPort p x).due = v.due := by cases p <;> rfl
@[simp] theorem Vexone.setPort_hal (v : Vexone) (p : Port) (x : PortState) : (v.setPort p x).hal = v.hal := by cases p <;> rfl
@[simp] theorem Vexone.setPort_ms (v : Vexone) (p : Port) (x : PortState) : (v.setPort p x).ms = v.ms := by cases p <;> rfl
@[simp] theorem Vexone.setPort_ops (v : Vexone) (p : Port) (x : PortState) : (v.setPort p x).ops = v.ops := by cases p <;> rfl
@[simp] theorem Vexone.setPort_opSeq (v : Vexone) (p : Port) (x : PortState) : (v.setPort p x).opSeq = v.opSeq := by cases p <;> rfl
@[simp] theorem Vexone.setPort_reads (v : Vexone) (p : Port) (x : PortState) : (v.setPort p x).reads = v.reads := by cases p <;> rfl
@[simp] theorem Vexone.setPort_nextRid (v : Vexone) (p : Port) (x : PortState) : (v.setPort p x).nextRid = v.nextRid := by cases p <;> rfl
@[simp] theorem Vexone.setPort_out (v : Vexone) (p : Port) (x : PortState) : (v.setPort p x).out = v.out := by cases p <;> rfl
@[simp] theorem Vexone.setPort_img (v : Vexone) (p : Port) (x : PortState) : (v.setPort p x).img = v.img := by cases p <;> rfl
@[simp] theorem Vexone.setPort_sch (v : Vexone) (p : Port) (x : PortState) : (v.setPort p x).sch = v.sch := by cases p <;> rfl
@[simp] theorem Vexone.setPort_segs (v : Vexone) (p : Port) (x : PortState) : (v.setPort p x).segs = v.segs := by cases p <;> rfl
@[simp] theorem Vexone.setPort_lanes (v : Vexone) (p : Port) (x : PortState) : (v.setPort p x).lanes = v.lanes := by cases p <;> rfl
@[simp] theorem Vexone.setPort_sess (v : Vexone) (p : Port) (x : PortState) : (v.setPort p x).sess = v.sess := by cases p <;> rfl
@[simp] theorem Vexone.setPort_busCap (v : Vexone) (p : Port) (x : PortState) : (v.setPort p x).busCap = v.busCap := by cases p <;> rfl
@[simp] theorem Vexone.setPort_cx (v : Vexone) (p : Port) (x : PortState) : (v.setPort p x).cx = v.cx := by cases p <;> rfl
@[simp] theorem Vexone.setPort_fb (v : Vexone) (p : Port) (x : PortState) : (v.setPort p x).fb = v.fb := by cases p <;> rfl
@[simp] theorem Vexone.setPort_ax (v : Vexone) (p : Port) (x : PortState) : (v.setPort p x).ax = v.ax := by cases p <;> rfl
@[simp] theorem Vexone.setPort_motors (v : Vexone) (p : Port) (x : PortState) : (v.setPort p x).motors = v.motors := by cases p <;> rfl
@[simp] theorem Vexone.setPort_mbus (v : Vexone) (p : Port) (x : PortState) : (v.setPort p x).mbus = v.mbus := by cases p <;> rfl
@[simp] theorem Vexone.setPort_eg (v : Vexone) (p : Port) (x : PortState) : (v.setPort p x).eg = v.eg := by cases p <;> rfl
@[simp] theorem Vexone.setPort_res (v : Vexone) (p : Port) (x : PortState) : (v.setPort p x).res = v.res := by cases p <;> rfl
@[simp] theorem Vexone.setPort_mains (v : Vexone) (p : Port) (x : PortState) : (v.setPort p x).mains = v.mains := by cases p <;> rfl
@[simp] theorem Vexone.setPort_th (v : Vexone) (p : Port) (x : PortState) : (v.setPort p x).th = v.th := by cases p <;> rfl
@[simp] theorem Vexone.setPort_fans (v : Vexone) (p : Port) (x : PortState) : (v.setPort p x).fans = v.fans := by cases p <;> rfl
@[simp] theorem Vexone.setPort_fwd (v : Vexone) (p : Port) (x : PortState) : (v.setPort p x).fwd = v.fwd := by cases p <;> rfl
@[simp] theorem Vexone.setPort_rack (v : Vexone) (p : Port) (x : PortState) : (v.setPort p x).rack = v.rack := by cases p <;> rfl
@[simp] theorem Vexone.setPort_diags (v : Vexone) (p : Port) (x : PortState) : (v.setPort p x).diags = v.diags := by cases p <;> rfl
@[simp] theorem Vexone.setPort_lin (v : Vexone) (p : Port) (x : PortState) : (v.setPort p x).lin = v.lin := by cases p <;> rfl
@[simp] theorem Vexone.setPort_dcnt (v : Vexone) (p : Port) (x : PortState) : (v.setPort p x).dcnt = v.dcnt := by cases p <;> rfl
@[simp] theorem Vexone.setPort_shown (v : Vexone) (p : Port) (x : PortState) : (v.setPort p x).shown = v.shown := by cases p <;> rfl
@[simp] theorem Vexone.setPort_later (v : Vexone) (p : Port) (x : PortState) : (v.setPort p x).later = v.later := by cases p <;> rfl
@[simp] theorem Vexone.setPort_fresh (v : Vexone) (p : Port) (x : PortState) : (v.setPort p x).fresh = v.fresh := by cases p <;> rfl

@[simp] theorem Vexone.modRail_pw (v : Vexone) (r : RailId) (f : Rail → Rail) : (v.modRail r f).pw = v.pw := by cases r <;> rfl
@[simp] theorem Vexone.modRail_clk (v : Vexone) (r : RailId) (f : Rail → Rail) : (v.modRail r f).clk = v.clk := by cases r <;> rfl
@[simp] theorem Vexone.modRail_fr (v : Vexone) (r : RailId) (f : Rail → Rail) : (v.modRail r f).fr = v.fr := by cases r <;> rfl
@[simp] theorem Vexone.modRail_regs (v : Vexone) (r : RailId) (f : Rail → Rail) : (v.modRail r f).regs = v.regs := by cases r <;> rfl
@[simp] theorem Vexone.modRail_fnEn (v : Vexone) (r : RailId) (f : Rail → Rail) : (v.modRail r f).fnEn = v.fnEn := by cases r <;> rfl
@[simp] theorem Vexone.modRail_faults (v : Vexone) (r : RailId) (f : Rail → Rail) : (v.modRail r f).faults = v.faults := by cases r <;> rfl
@[simp] theorem Vexone.modRail_pairs (v : Vexone) (r : RailId) (f : Rail → Rail) : (v.modRail r f).pairs = v.pairs := by cases r <;> rfl
@[simp] theorem Vexone.modRail_due (v : Vexone) (r : RailId) (f : Rail → Rail) : (v.modRail r f).due = v.due := by cases r <;> rfl
@[simp] theorem Vexone.modRail_hal (v : Vexone) (r : RailId) (f : Rail → Rail) : (v.modRail r f).hal = v.hal := by cases r <;> rfl
@[simp] theorem Vexone.modRail_portA (v : Vexone) (r : RailId) (f : Rail → Rail) : (v.modRail r f).portA = v.portA := by cases r <;> rfl
@[simp] theorem Vexone.modRail_portB (v : Vexone) (r : RailId) (f : Rail → Rail) : (v.modRail r f).portB = v.portB := by cases r <;> rfl
@[simp] theorem Vexone.modRail_ms (v : Vexone) (r : RailId) (f : Rail → Rail) : (v.modRail r f).ms = v.ms := by cases r <;> rfl
@[simp] theorem Vexone.modRail_ops (v : Vexone) (r : RailId) (f : Rail → Rail) : (v.modRail r f).ops = v.ops := by cases r <;> rfl
@[simp] theorem Vexone.modRail_opSeq (v : Vexone) (r : RailId) (f : Rail → Rail) : (v.modRail r f).opSeq = v.opSeq := by cases r <;> rfl
@[simp] theorem Vexone.modRail_reads (v : Vexone) (r : RailId) (f : Rail → Rail) : (v.modRail r f).reads = v.reads := by cases r <;> rfl
@[simp] theorem Vexone.modRail_nextRid (v : Vexone) (r : RailId) (f : Rail → Rail) : (v.modRail r f).nextRid = v.nextRid := by cases r <;> rfl
@[simp] theorem Vexone.modRail_out (v : Vexone) (r : RailId) (f : Rail → Rail) : (v.modRail r f).out = v.out := by cases r <;> rfl
@[simp] theorem Vexone.modRail_img (v : Vexone) (r : RailId) (f : Rail → Rail) : (v.modRail r f).img = v.img := by cases r <;> rfl
@[simp] theorem Vexone.modRail_sch (v : Vexone) (r : RailId) (f : Rail → Rail) : (v.modRail r f).sch = v.sch := by cases r <;> rfl
@[simp] theorem Vexone.modRail_segs (v : Vexone) (r : RailId) (f : Rail → Rail) : (v.modRail r f).segs = v.segs := by cases r <;> rfl
@[simp] theorem Vexone.modRail_lanes (v : Vexone) (r : RailId) (f : Rail → Rail) : (v.modRail r f).lanes = v.lanes := by cases r <;> rfl
@[simp] theorem Vexone.modRail_sess (v : Vexone) (r : RailId) (f : Rail → Rail) : (v.modRail r f).sess = v.sess := by cases r <;> rfl
@[simp] theorem Vexone.modRail_busCap (v : Vexone) (r : RailId) (f : Rail → Rail) : (v.modRail r f).busCap = v.busCap := by cases r <;> rfl
@[simp] theorem Vexone.modRail_cx (v : Vexone) (r : RailId) (f : Rail → Rail) : (v.modRail r f).cx = v.cx := by cases r <;> rfl
@[simp] theorem Vexone.modRail_motors (v : Vexone) (r : RailId) (f : Rail → Rail) : (v.modRail r f).motors = v.motors := by cases r <;> rfl
@[simp] theorem Vexone.modRail_mbus (v : Vexone) (r : RailId) (f : Rail → Rail) : (v.modRail r f).mbus = v.mbus := by cases r <;> rfl
@[simp] theorem Vexone.modRail_eg (v : Vexone) (r : RailId) (f : Rail → Rail) : (v.modRail r f).eg = v.eg := by cases r <;> rfl
@[simp] theorem Vexone.modRail_res (v : Vexone) (r : RailId) (f : Rail → Rail) : (v.modRail r f).res = v.res := by cases r <;> rfl
@[simp] theorem Vexone.modRail_mains (v : Vexone) (r : RailId) (f : Rail → Rail) : (v.modRail r f).mains = v.mains := by cases r <;> rfl
@[simp] theorem Vexone.modRail_th (v : Vexone) (r : RailId) (f : Rail → Rail) : (v.modRail r f).th = v.th := by cases r <;> rfl
@[simp] theorem Vexone.modRail_fans (v : Vexone) (r : RailId) (f : Rail → Rail) : (v.modRail r f).fans = v.fans := by cases r <;> rfl
@[simp] theorem Vexone.modRail_fwd (v : Vexone) (r : RailId) (f : Rail → Rail) : (v.modRail r f).fwd = v.fwd := by cases r <;> rfl
@[simp] theorem Vexone.modRail_rack (v : Vexone) (r : RailId) (f : Rail → Rail) : (v.modRail r f).rack = v.rack := by cases r <;> rfl
@[simp] theorem Vexone.modRail_diags (v : Vexone) (r : RailId) (f : Rail → Rail) : (v.modRail r f).diags = v.diags := by cases r <;> rfl
@[simp] theorem Vexone.modRail_lin (v : Vexone) (r : RailId) (f : Rail → Rail) : (v.modRail r f).lin = v.lin := by cases r <;> rfl
@[simp] theorem Vexone.modRail_dcnt (v : Vexone) (r : RailId) (f : Rail → Rail) : (v.modRail r f).dcnt = v.dcnt := by cases r <;> rfl
@[simp] theorem Vexone.modRail_shown (v : Vexone) (r : RailId) (f : Rail → Rail) : (v.modRail r f).shown = v.shown := by cases r <;> rfl
@[simp] theorem Vexone.modRail_later (v : Vexone) (r : RailId) (f : Rail → Rail) : (v.modRail r f).later = v.later := by cases r <;> rfl
@[simp] theorem Vexone.modRail_fresh (v : Vexone) (r : RailId) (f : Rail → Rail) : (v.modRail r f).fresh = v.fresh := by cases r <;> rfl

@[simp] theorem Vexone.fanKick_pw (v : Vexone) (m : Master) : (v.fanKick m).pw = v.pw := by unfold Vexone.fanKick; split <;> rfl
@[simp] theorem Vexone.fanKick_clk (v : Vexone) (m : Master) : (v.fanKick m).clk = v.clk := by unfold Vexone.fanKick; split <;> rfl
@[simp] theorem Vexone.fanKick_fr (v : Vexone) (m : Master) : (v.fanKick m).fr = v.fr := by unfold Vexone.fanKick; split <;> rfl
@[simp] theorem Vexone.fanKick_regs (v : Vexone) (m : Master) : (v.fanKick m).regs = v.regs := by unfold Vexone.fanKick; split <;> rfl
@[simp] theorem Vexone.fanKick_fnEn (v : Vexone) (m : Master) : (v.fanKick m).fnEn = v.fnEn := by unfold Vexone.fanKick; split <;> rfl
@[simp] theorem Vexone.fanKick_faults (v : Vexone) (m : Master) : (v.fanKick m).faults = v.faults := by unfold Vexone.fanKick; split <;> rfl
@[simp] theorem Vexone.fanKick_pairs (v : Vexone) (m : Master) : (v.fanKick m).pairs = v.pairs := by unfold Vexone.fanKick; split <;> rfl
@[simp] theorem Vexone.fanKick_due (v : Vexone) (m : Master) : (v.fanKick m).due = v.due := by unfold Vexone.fanKick; split <;> rfl
@[simp] theorem Vexone.fanKick_hal (v : Vexone) (m : Master) : (v.fanKick m).hal = v.hal := by unfold Vexone.fanKick; split <;> rfl
@[simp] theorem Vexone.fanKick_portA (v : Vexone) (m : Master) : (v.fanKick m).portA = v.portA := by unfold Vexone.fanKick; split <;> rfl
@[simp] theorem Vexone.fanKick_portB (v : Vexone) (m : Master) : (v.fanKick m).portB = v.portB := by unfold Vexone.fanKick; split <;> rfl
@[simp] theorem Vexone.fanKick_ms (v : Vexone) (m : Master) : (v.fanKick m).ms = v.ms := by unfold Vexone.fanKick; split <;> rfl
@[simp] theorem Vexone.fanKick_ops (v : Vexone) (m : Master) : (v.fanKick m).ops = v.ops := by unfold Vexone.fanKick; split <;> rfl
@[simp] theorem Vexone.fanKick_opSeq (v : Vexone) (m : Master) : (v.fanKick m).opSeq = v.opSeq := by unfold Vexone.fanKick; split <;> rfl
@[simp] theorem Vexone.fanKick_reads (v : Vexone) (m : Master) : (v.fanKick m).reads = v.reads := by unfold Vexone.fanKick; split <;> rfl
@[simp] theorem Vexone.fanKick_nextRid (v : Vexone) (m : Master) : (v.fanKick m).nextRid = v.nextRid := by unfold Vexone.fanKick; split <;> rfl
@[simp] theorem Vexone.fanKick_out (v : Vexone) (m : Master) : (v.fanKick m).out = v.out := by unfold Vexone.fanKick; split <;> rfl
@[simp] theorem Vexone.fanKick_img (v : Vexone) (m : Master) : (v.fanKick m).img = v.img := by unfold Vexone.fanKick; split <;> rfl
@[simp] theorem Vexone.fanKick_sch (v : Vexone) (m : Master) : (v.fanKick m).sch = v.sch := by unfold Vexone.fanKick; split <;> rfl
@[simp] theorem Vexone.fanKick_segs (v : Vexone) (m : Master) : (v.fanKick m).segs = v.segs := by unfold Vexone.fanKick; split <;> rfl
@[simp] theorem Vexone.fanKick_lanes (v : Vexone) (m : Master) : (v.fanKick m).lanes = v.lanes := by unfold Vexone.fanKick; split <;> rfl
@[simp] theorem Vexone.fanKick_sess (v : Vexone) (m : Master) : (v.fanKick m).sess = v.sess := by unfold Vexone.fanKick; split <;> rfl
@[simp] theorem Vexone.fanKick_busCap (v : Vexone) (m : Master) : (v.fanKick m).busCap = v.busCap := by unfold Vexone.fanKick; split <;> rfl
@[simp] theorem Vexone.fanKick_cx (v : Vexone) (m : Master) : (v.fanKick m).cx = v.cx := by unfold Vexone.fanKick; split <;> rfl
@[simp] theorem Vexone.fanKick_fb (v : Vexone) (m : Master) : (v.fanKick m).fb = v.fb := by unfold Vexone.fanKick; split <;> rfl
@[simp] theorem Vexone.fanKick_ax (v : Vexone) (m : Master) : (v.fanKick m).ax = v.ax := by unfold Vexone.fanKick; split <;> rfl
@[simp] theorem Vexone.fanKick_motors (v : Vexone) (m : Master) : (v.fanKick m).motors = v.motors := by unfold Vexone.fanKick; split <;> rfl
@[simp] theorem Vexone.fanKick_mbus (v : Vexone) (m : Master) : (v.fanKick m).mbus = v.mbus := by unfold Vexone.fanKick; split <;> rfl
@[simp] theorem Vexone.fanKick_eg (v : Vexone) (m : Master) : (v.fanKick m).eg = v.eg := by unfold Vexone.fanKick; split <;> rfl
@[simp] theorem Vexone.fanKick_res (v : Vexone) (m : Master) : (v.fanKick m).res = v.res := by unfold Vexone.fanKick; split <;> rfl
@[simp] theorem Vexone.fanKick_mains (v : Vexone) (m : Master) : (v.fanKick m).mains = v.mains := by unfold Vexone.fanKick; split <;> rfl
@[simp] theorem Vexone.fanKick_th (v : Vexone) (m : Master) : (v.fanKick m).th = v.th := by unfold Vexone.fanKick; split <;> rfl
@[simp] theorem Vexone.fanKick_fans (v : Vexone) (m : Master) : (v.fanKick m).fans = v.fans := by unfold Vexone.fanKick; split <;> rfl
@[simp] theorem Vexone.fanKick_rack (v : Vexone) (m : Master) : (v.fanKick m).rack = v.rack := by unfold Vexone.fanKick; split <;> rfl
@[simp] theorem Vexone.fanKick_diags (v : Vexone) (m : Master) : (v.fanKick m).diags = v.diags := by unfold Vexone.fanKick; split <;> rfl
@[simp] theorem Vexone.fanKick_lin (v : Vexone) (m : Master) : (v.fanKick m).lin = v.lin := by unfold Vexone.fanKick; split <;> rfl
@[simp] theorem Vexone.fanKick_dcnt (v : Vexone) (m : Master) : (v.fanKick m).dcnt = v.dcnt := by unfold Vexone.fanKick; split <;> rfl
@[simp] theorem Vexone.fanKick_shown (v : Vexone) (m : Master) : (v.fanKick m).shown = v.shown := by unfold Vexone.fanKick; split <;> rfl
@[simp] theorem Vexone.fanKick_later (v : Vexone) (m : Master) : (v.fanKick m).later = v.later := by unfold Vexone.fanKick; split <;> rfl
@[simp] theorem Vexone.fanKick_fresh (v : Vexone) (m : Master) : (v.fanKick m).fresh = v.fresh := by unfold Vexone.fanKick; split <;> rfl

end Sys2Proof.Machine
end

