-- ==== Sys2Proof/Laws/Ops.lean ====
section
/-! SUPPORT. What the shared operations can do, said once: vectors and handles changed in one place, events and faults, the
operation at a place, operations that begin, and commands of one die. -/

namespace Sys2Proof.Machine

open Sys2Proof Sys2Proof.Safety

/-! ## Vectors changed in one place -/

@[simp] theorem vmod_self {α : Type} {n : Nat} (v : Vector α n) (i : Fin n) (f : α → α) : (vmod v i f)[i] = f v[i] := by
  simp [vmod]

theorem vmod_other {α : Type} {n : Nat} (v : Vector α n) (i j : Fin n) (f : α → α) (h : j ≠ i) : (vmod v i f)[j] = v[j] := by
  have : ¬ i.val = j.val := fun e => h (Fin.ext e.symm)
  simp [vmod, Vector.getElem_set, this]

theorem vmod_get {α : Type} {n : Nat} (v : Vector α n) (i j : Fin n) (f : α → α) :
    (vmod v i f)[j] = if j = i then f v[j] else v[j] := by
  split
  · next h => subst h; exact vmod_self v j f
  · next h => exact vmod_other v i j f h

/-! ## Ordered lists -/

theorem mem_insertBy {α : Type} (b : α → α → Bool) (x y : α) (l : List α) : y ∈ insertBy b x l ↔ y = x ∨ y ∈ l := by
  induction l with
  | nil => simp [insertBy]
  | cons z zs ih =>
    unfold insertBy
    split
    · simp [ih]; constructor <;> (rintro (h | h | h) <;> simp [h])
    · simp

/-- A search that only the new element meets finds it. -/
theorem find_insertBy {α : Type} (b : α → α → Bool) (p : α → Bool) (x : α) (l : List α) (hx : p x = true)
    (hl : ∀ y ∈ l, p y = false) : (insertBy b x l).find? p = some x := by
  induction l with
  | nil => simp [insertBy, hx]
  | cons z zs ih =>
    unfold insertBy
    split
    · simp [hl z (by simp), ih fun y hy => hl y (by simp [hy])]
    · simp [hx]

/-- A search that the new element does not meet goes on as before. -/
theorem find_insertBy_other {α : Type} (b : α → α → Bool) (p : α → Bool) (x : α) (l : List α) (hx : p x = false) :
    (insertBy b x l).find? p = l.find? p := by
  induction l with
  | nil => simp [insertBy, hx]
  | cons z zs ih =>
    unfold insertBy
    split
    · simp [List.find?_cons, ih]
    · simp [hx]

theorem find_filter {α : Type} (p q : α → Bool) (l : List α) (h : ∀ y ∈ l, p y = true → q y = true) :
    (l.filter q).find? p = l.find? p := by
  induction l with
  | nil => rfl
  | cons z zs ih =>
    have ih' := ih fun y hy => h y (by simp [hy])
    cases hq : q z <;> cases hp : p z <;> simp [List.filter_cons, hq, hp, ih']
    exact absurd (h z (by simp) hp) (by simp [hq])

/-! ## Register cells -/

theorem lookup_eq_find (l : List RegCell) (a : Nat) : l.lookup a = (l.find? fun c => c.1 == a).map (·.2) := by
  induction l with
  | nil => rfl
  | cons c cs ih =>
    simp only [List.lookup, List.find?_cons]
    rw [show (a == c.1) = (c.1 == a) from by simp [Bool.beq_comm]]
    cases c.1 == a <;> simp [ih]

@[simp] theorem cellGet_set_self (l : List RegCell) (a : Nat) (w : Word) : cellGet (cellSet l a w) a = w := by
  unfold cellGet cellSet
  simp only
  rw [lookup_eq_find]
  by_cases e : w = resetWord a
  · have : (l.filter fun c => c.1 != a).find? (fun c => c.1 == a) = none :=
      List.find?_eq_none.2 fun x hx => by simpa using (List.mem_filter.1 hx).2
    rw [if_pos e, this]
    exact e.symm
  · rw [if_neg e, find_insertBy _ _ (a, w) _ (by simp) fun y hy => by simpa using (List.mem_filter.1 hy).2]
    rfl

theorem cellGet_set_other (l : List RegCell) (a b : Nat) (w : Word) (h : b ≠ a) : cellGet (cellSet l a w) b = cellGet l b := by
  have e : (cellSet l a w).lookup b = l.lookup b := by
    rw [lookup_eq_find, lookup_eq_find]
    have f : (l.filter fun c => c.1 != a).find? (fun c => c.1 == b) = l.find? fun c => c.1 == b :=
      find_filter _ _ l fun y _ hy => by simp at hy; simp [hy, h]
    unfold cellSet
    simp only
    split
    · rw [f]
    · rw [find_insertBy_other _ _ _ _ (by simp [Ne.symm h]), f]
  unfold cellGet
  rw [e]

/-- Strictly rising addresses. -/
def Rising (l : List RegCell) : Prop := l.Pairwise fun x y => x.1 < y.1

theorem rising_insert (l : List RegCell) (a : Nat) (w : Word) (h : Rising l) (ha : ∀ c ∈ l, c.1 ≠ a) :
    Rising (insertBy (fun x y => x.1 < y.1) (a, w) l) := by
  induction l with
  | nil => simp [insertBy, Rising]
  | cons c cs ih =>
    unfold Rising at h ih ⊢
    rw [List.pairwise_cons] at h
    unfold insertBy
    split
    · next hb =>
      rw [List.pairwise_cons]
      refine ⟨fun y hy => ?_, ih h.2 fun d hd => ha d (by simp [hd])⟩
      rcases (mem_insertBy _ _ _ _).1 hy with rfl | hy
      · simpa using hb
      · exact h.1 y hy
    · next hb =>
      have hc := ha c (by simp)
      have : a < c.1 := by simp at hb; omega
      rw [List.pairwise_cons, List.pairwise_cons]
      refine ⟨fun y hy => ?_, h⟩
      rcases List.mem_cons.1 hy with rfl | hy
      · exact this
      · exact Nat.lt_trans this (h.1 y hy)

/-- A cell list stays canonical under a write: addresses rising, and no reset value listed. -/
theorem cellSet_canonical (l : List RegCell) (a : Nat) (w : Word) (h : Rising l) (hr : ∀ c ∈ l, c.2 ≠ resetWord c.1) :
    Rising (cellSet l a w) ∧ ∀ c ∈ cellSet l a w, c.2 ≠ resetWord c.1 := by
  have hf : Rising (l.filter fun c => c.1 != a) := h.filter _
  unfold cellSet
  simp only
  split
  · exact ⟨hf, fun c hc => hr c (List.mem_filter.1 hc).1⟩
  · next hw =>
    refine ⟨rising_insert _ _ _ hf fun c hc => ?_, fun c hc => ?_⟩
    · simpa using (List.mem_filter.1 hc).2
    · rcases (mem_insertBy _ _ _ _).1 hc with rfl | hc
      · exact hw
      · exact hr c (List.mem_filter.1 hc).1

/-! ## Handles -/

theorem Cx.get_handle (x : Cx) (h : BitVec 12) : (x.get h).handle = h := by
  unfold Cx.get
  split
  · next e he => simpa using List.find?_some he
  · rfl

theorem Cx.get_upd (x : Cx) (h : BitVec 12) (f : HEntry → HEntry) (hf : (f (x.get h)).handle = h) :
    (x.upd h f).get h = f (x.get h) := by
  have : (x.upd h f).tab.find? (fun e => e.handle == h) = some (f (x.get h)) := by
    unfold Cx.upd
    exact find_insertBy _ _ _ _ (by simp [hf]) (by simp)
  rw [Cx.get, this]

theorem Cx.get_upd_other (x : Cx) (h k : BitVec 12) (f : HEntry → HEntry) (hf : (f (x.get h)).handle = h) (hk : k ≠ h) :
    (x.upd h f).get k = x.get k := by
  have : (x.upd h f).tab.find? (fun e => e.handle == k) = x.tab.find? fun e => e.handle == k := by
    unfold Cx.upd
    simp only
    rw [find_insertBy_other _ _ _ _ (by simp [hf, Ne.symm hk]),
      find_filter _ _ _ fun y _ hy => by simp at hy; simp [hy, hk]]
  rw [Cx.get, this, Cx.get]

/-! ## Faults -/

/-- The entry of a code just set. -/
@[simp] theorem Vexone.fault_setFault (v : Vexone) (e : FaultEntry) : (v.setFault e).fault e.code = e := by
  have : (v.setFault e).faults.find? (fun x => x.code == e.code) = some e := by
    unfold Vexone.setFault
    refine find_insertBy _ _ _ _ (by simp) fun y hy => ?_
    have := (List.mem_filter.1 hy).2
    simp at this
    simp [this.1]
  rw [Vexone.fault, this]

/-- Another code keeps its entry, where the two are not both proof codes. -/
theorem Vexone.fault_setFault_other (v : Vexone) (e : FaultEntry) (c : Nat) (h : c ≠ e.code)
    (hp : isProofCode c = false ∨ isProofCode e.code = false) : (v.setFault e).fault c = v.fault c := by
  have : (v.setFault e).faults.find? (fun x => x.code == c) = v.faults.find? fun x => x.code == c := by
    unfold Vexone.setFault
    simp only
    rw [find_insertBy_other _ _ _ _ (by simp [Ne.symm h]), find_filter]
    intro y _ hy
    simp at hy
    subst hy
    rcases hp with hp | hp <;> simp [h, hp]
  rw [Vexone.fault, this, Vexone.fault]

/-- The instances of a code after some of them latch. -/
theorem Vexone.latchRaw_mask (v : Vexone) (c : Nat) (m : BitVec 16) : ((v.latchRaw c m).fault c).mask =
    (if (v.faultPlace c).code = c then (v.faultPlace c).mask else 0) ||| m := by
  unfold Vexone.latchRaw
  simp only
  exact congrArg FaultEntry.mask (Vexone.fault_setFault _ _)

/-- A code with an instance that has just latched. -/
theorem Vexone.latched_latchRaw (v : Vexone) (c : Nat) (m : BitVec 16) (i : Nat) (h : m.getLsbD i = true) :
    (v.latchRaw c m).latched c i = true := by
  rw [Vexone.latched, Vexone.latchRaw_mask]
  simp [h]

theorem Vexone.fault_code (v : Vexone) (c : Nat) : (v.fault c).code = c := by
  unfold Vexone.fault
  split
  · next e he => simpa using List.find?_some he
  · rfl

/-- A code that is no proof code has a place of its own. -/
theorem Vexone.faultPlace_own (v : Vexone) (c : Nat) (h : isProofCode c = false) : v.faultPlace c = v.fault c := by
  unfold Vexone.faultPlace Vexone.fault
  simp [h]

theorem Vexone.latchRaw_fault_other (v : Vexone) (c d : Nat) (m : BitVec 16) (h : d ≠ c)
    (hp : isProofCode d = false ∨ isProofCode c = false) : (v.latchRaw c m).fault d = v.fault d := by
  unfold Vexone.latchRaw
  simp only
  rw [Vexone.fault_setFault_other _ _ _ h hp]
  rfl

/-! ## Events -/

/-- An event can change only the queues of masters, the count of lost events, what an RC field has just gained, and, where a
queue overflows, fault 0x0406 (and with it the settings that spare it). -/
theorem Vexone.queueEvent_spec (v : Vexone) (m : Master) (c : Nat) (fr : BitVec 32) (o : Nat) (pl : List Byte) :
    ∃ ms dcnt hot,
      v.queueEvent m c fr o pl = { v with ms := ms, dcnt := dcnt, regs := { v.regs with hot := hot } } ∨
      v.queueEvent m c fr o pl = ({ v with ms := ms, dcnt := dcnt, regs := { v.regs with hot := hot } } : Vexone).latchRaw 0x0406
        (oneHot 16 m.idx.val) := by
  unfold Vexone.queueEvent
  split
  · exact ⟨v.ms, v.dcnt, v.regs.hot, .inl rfl⟩
  · simp only
    split
    · split
      · exact ⟨_, v.dcnt, v.regs.hot, .inl rfl⟩
      · split
        · exact ⟨_, _, _, .inr rfl⟩
        · exact ⟨_, _, _, .inl rfl⟩
    · exact ⟨_, v.dcnt, v.regs.hot, .inl rfl⟩

@[simp] theorem Vexone.queueEvent_pw (v : Vexone) (m : Master) (c : Nat) (fr : BitVec 32) (o : Nat) (pl : List Byte) : (v.queueEvent m c fr o pl).pw = v.pw := by
  obtain ⟨_, _, _, h | h⟩ := v.queueEvent_spec m c fr o pl <;> rw [h] <;> rfl
@[simp] theorem Vexone.queueEvent_clk (v : Vexone) (m : Master) (c : Nat) (fr : BitVec 32) (o : Nat) (pl : List Byte) : (v.queueEvent m c fr o pl).clk = v.clk := by
  obtain ⟨_, _, _, h | h⟩ := v.queueEvent_spec m c fr o pl <;> rw [h] <;> rfl
@[simp] theorem Vexone.queueEvent_fr (v : Vexone) (m : Master) (c : Nat) (fr : BitVec 32) (o : Nat) (pl : List Byte) : (v.queueEvent m c fr o pl).fr = v.fr := by
  obtain ⟨_, _, _, h | h⟩ := v.queueEvent_spec m c fr o pl <;> rw [h] <;> rfl
@[simp] theorem Vexone.queueEvent_regs_wr (v : Vexone) (m : Master) (c : Nat) (fr : BitVec 32) (o : Nat) (pl : List Byte) : (v.queueEvent m c fr o pl).regs.wr = v.regs.wr := by
  obtain ⟨_, _, _, h | h⟩ := v.queueEvent_spec m c fr o pl <;> rw [h] <;> rfl
@[simp] theorem Vexone.queueEvent_regs_inForce (v : Vexone) (m : Master) (c : Nat) (fr : BitVec 32) (o : Nat) (pl : List Byte) : (v.queueEvent m c fr o pl).regs.inForce = v.regs.inForce := by
  obtain ⟨_, _, _, h | h⟩ := v.queueEvent_spec m c fr o pl <;> rw [h] <;> rfl
@[simp] theorem Vexone.queueEvent_regs_fresh (v : Vexone) (m : Master) (c : Nat) (fr : BitVec 32) (o : Nat) (pl : List Byte) : (v.queueEvent m c fr o pl).regs.fresh = v.regs.fresh := by
  obtain ⟨_, _, _, h | h⟩ := v.queueEvent_spec m c fr o pl <;> rw [h] <;> rfl
@[simp] theorem Vexone.queueEvent_fnEn (v : Vexone) (m : Master) (c : Nat) (fr : BitVec 32) (o : Nat) (pl : List Byte) : (v.queueEvent m c fr o pl).fnEn = v.fnEn := by
  obtain ⟨_, _, _, h | h⟩ := v.queueEvent_spec m c fr o pl <;> rw [h] <;> rfl
@[simp] theorem Vexone.queueEvent_pairs (v : Vexone) (m : Master) (c : Nat) (fr : BitVec 32) (o : Nat) (pl : List Byte) : (v.queueEvent m c fr o pl).pairs = v.pairs := by
  obtain ⟨_, _, _, h | h⟩ := v.queueEvent_spec m c fr o pl <;> rw [h] <;> rfl
@[simp] theorem Vexone.queueEvent_hal (v : Vexone) (m : Master) (c : Nat) (fr : BitVec 32) (o : Nat) (pl : List Byte) : (v.queueEvent m c fr o pl).hal = v.hal := by
  obtain ⟨_, _, _, h | h⟩ := v.queueEvent_spec m c fr o pl <;> rw [h] <;> rfl
@[simp] theorem Vexone.queueEvent_portA (v : Vexone) (m : Master) (c : Nat) (fr : BitVec 32) (o : Nat) (pl : List Byte) : (v.queueEvent m c fr o pl).portA = v.portA := by
  obtain ⟨_, _, _, h | h⟩ := v.queueEvent_spec m c fr o pl <;> rw [h] <;> rfl
@[simp] theorem Vexone.queueEvent_portB (v : Vexone) (m : Master) (c : Nat) (fr : BitVec 32) (o : Nat) (pl : List Byte) : (v.queueEvent m c fr o pl).portB = v.portB := by
  obtain ⟨_, _, _, h | h⟩ := v.queueEvent_spec m c fr o pl <;> rw [h] <;> rfl
@[simp] theorem Vexone.queueEvent_ops (v : Vexone) (m : Master) (c : Nat) (fr : BitVec 32) (o : Nat) (pl : List Byte) : (v.queueEvent m c fr o pl).ops = v.ops := by
  obtain ⟨_, _, _, h | h⟩ := v.queueEvent_spec m c fr o pl <;> rw [h] <;> rfl
@[simp] theorem Vexone.queueEvent_opSeq (v : Vexone) (m : Master) (c : Nat) (fr : BitVec 32) (o : Nat) (pl : List Byte) : (v.queueEvent m c fr o pl).opSeq = v.opSeq := by
  obtain ⟨_, _, _, h | h⟩ := v.queueEvent_spec m c fr o pl <;> rw [h] <;> rfl
@[simp] theorem Vexone.queueEvent_reads (v : Vexone) (m : Master) (c : Nat) (fr : BitVec 32) (o : Nat) (pl : List Byte) : (v.queueEvent m c fr o pl).reads = v.reads := by
  obtain ⟨_, _, _, h | h⟩ := v.queueEvent_spec m c fr o pl <;> rw [h] <;> rfl
@[simp] theorem Vexone.queueEvent_nextRid (v : Vexone) (m : Master) (c : Nat) (fr : BitVec 32) (o : Nat) (pl : List Byte) : (v.queueEvent m c fr o pl).nextRid = v.nextRid := by
  obtain ⟨_, _, _, h | h⟩ := v.queueEvent_spec m c fr o pl <;> rw [h] <;> rfl
@[simp] theorem Vexone.queueEvent_out (v : Vexone) (m : Master) (c : Nat) (fr : BitVec 32) (o : Nat) (pl : List Byte) : (v.queueEvent m c fr o pl).out = v.out := by
  obtain ⟨_, _, _, h | h⟩ := v.queueEvent_spec m c fr o pl <;> rw [h] <;> rfl
@[simp] theorem Vexone.queueEvent_img (v : Vexone) (m : Master) (c : Nat) (fr : BitVec 32) (o : Nat) (pl : List Byte) : (v.queueEvent m c fr o pl).img = v.img := by
  obtain ⟨_, _, _, h | h⟩ := v.queueEvent_spec m c fr o pl <;> rw [h] <;> rfl
@[simp] theorem Vexone.queueEvent_sch (v : Vexone) (m : Master) (c : Nat) (fr : BitVec 32) (o : Nat) (pl : List Byte) : (v.queueEvent m c fr o pl).sch = v.sch := by
  obtain ⟨_, _, _, h | h⟩ := v.queueEvent_spec m c fr o pl <;> rw [h] <;> rfl
@[simp] theorem Vexone.queueEvent_segs (v : Vexone) (m : Master) (c : Nat) (fr : BitVec 32) (o : Nat) (pl : List Byte) : (v.queueEvent m c fr o pl).segs = v.segs := by
  obtain ⟨_, _, _, h | h⟩ := v.queueEvent_spec m c fr o pl <;> rw [h] <;> rfl
@[simp] theorem Vexone.queueEvent_lanes (v : Vexone) (m : Master) (c : Nat) (fr : BitVec 32) (o : Nat) (pl : List Byte) : (v.queueEvent m c fr o pl).lanes = v.lanes := by
  obtain ⟨_, _, _, h | h⟩ := v.queueEvent_spec m c fr o pl <;> rw [h] <;> rfl
@[simp] theorem Vexone.queueEvent_sess (v : Vexone) (m : Master) (c : Nat) (fr : BitVec 32) (o : Nat) (pl : List Byte) : (v.queueEvent m c fr o pl).sess = v.sess := by
  obtain ⟨_, _, _, h | h⟩ := v.queueEvent_spec m c fr o pl <;> rw [h] <;> rfl
@[simp] theorem Vexone.queueEvent_cx (v : Vexone) (m : Master) (c : Nat) (fr : BitVec 32) (o : Nat) (pl : List Byte) : (v.queueEvent m c fr o pl).cx = v.cx := by
  obtain ⟨_, _, _, h | h⟩ := v.queueEvent_spec m c fr o pl <;> rw [h] <;> rfl
@[simp] theorem Vexone.queueEvent_fb (v : Vexone) (m : Master) (c : Nat) (fr : BitVec 32) (o : Nat) (pl : List Byte) : (v.queueEvent m c fr o pl).fb = v.fb := by
  obtain ⟨_, _, _, h | h⟩ := v.queueEvent_spec m c fr o pl <;> rw [h] <;> rfl
@[simp] theorem Vexone.queueEvent_ax (v : Vexone) (m : Master) (c : Nat) (fr : BitVec 32) (o : Nat) (pl : List Byte) : (v.queueEvent m c fr o pl).ax = v.ax := by
  obtain ⟨_, _, _, h | h⟩ := v.queueEvent_spec m c fr o pl <;> rw [h] <;> rfl
@[simp] theorem Vexone.queueEvent_motors (v : Vexone) (m : Master) (c : Nat) (fr : BitVec 32) (o : Nat) (pl : List Byte) : (v.queueEvent m c fr o pl).motors = v.motors := by
  obtain ⟨_, _, _, h | h⟩ := v.queueEvent_spec m c fr o pl <;> rw [h] <;> rfl
@[simp] theorem Vexone.queueEvent_mbus (v : Vexone) (m : Master) (c : Nat) (fr : BitVec 32) (o : Nat) (pl : List Byte) : (v.queueEvent m c fr o pl).mbus = v.mbus := by
  obtain ⟨_, _, _, h | h⟩ := v.queueEvent_spec m c fr o pl <;> rw [h] <;> rfl
@[simp] theorem Vexone.queueEvent_eg (v : Vexone) (m : Master) (c : Nat) (fr : BitVec 32) (o : Nat) (pl : List Byte) : (v.queueEvent m c fr o pl).eg = v.eg := by
  obtain ⟨_, _, _, h | h⟩ := v.queueEvent_spec m c fr o pl <;> rw [h] <;> rfl
@[simp] theorem Vexone.queueEvent_res (v : Vexone) (m : Master) (c : Nat) (fr : BitVec 32) (o : Nat) (pl : List Byte) : (v.queueEvent m c fr o pl).res = v.res := by
  obtain ⟨_, _, _, h | h⟩ := v.queueEvent_spec m c fr o pl <;> rw [h] <;> rfl
@[simp] theorem Vexone.queueEvent_mains (v : Vexone) (m : Master) (c : Nat) (fr : BitVec 32) (o : Nat) (pl : List Byte) : (v.queueEvent m c fr o pl).mains = v.mains := by
  obtain ⟨_, _, _, h | h⟩ := v.queueEvent_spec m c fr o pl <;> rw [h] <;> rfl
@[simp] theorem Vexone.queueEvent_th (v : Vexone) (m : Master) (c : Nat) (fr : BitVec 32) (o : Nat) (pl : List Byte) : (v.queueEvent m c fr o pl).th = v.th := by
  obtain ⟨_, _, _, h | h⟩ := v.queueEvent_spec m c fr o pl <;> rw [h] <;> rfl
@[simp] theorem Vexone.queueEvent_fans (v : Vexone) (m : Master) (c : Nat) (fr : BitVec 32) (o : Nat) (pl : List Byte) : (v.queueEvent m c fr o pl).fans = v.fans := by
  obtain ⟨_, _, _, h | h⟩ := v.queueEvent_spec m c fr o pl <;> rw [h] <;> rfl
@[simp] theorem Vexone.queueEvent_fwd (v : Vexone) (m : Master) (c : Nat) (fr : BitVec 32) (o : Nat) (pl : List Byte) : (v.queueEvent m c fr o pl).fwd = v.fwd := by
  obtain ⟨_, _, _, h | h⟩ := v.queueEvent_spec m c fr o pl <;> rw [h] <;> rfl
@[simp] theorem Vexone.queueEvent_rack (v : Vexone) (m : Master) (c : Nat) (fr : BitVec 32) (o : Nat) (pl : List Byte) : (v.queueEvent m c fr o pl).rack = v.rack := by
  obtain ⟨_, _, _, h | h⟩ := v.queueEvent_spec m c fr o pl <;> rw [h] <;> rfl
@[simp] theorem Vexone.queueEvent_diags (v : Vexone) (m : Master) (c : Nat) (fr : BitVec 32) (o : Nat) (pl : List Byte) : (v.queueEvent m c fr o pl).diags = v.diags := by
  obtain ⟨_, _, _, h | h⟩ := v.queueEvent_spec m c fr o pl <;> rw [h] <;> rfl
@[simp] theorem Vexone.queueEvent_lin (v : Vexone) (m : Master) (c : Nat) (fr : BitVec 32) (o : Nat) (pl : List Byte) : (v.queueEvent m c fr o pl).lin = v.lin := by
  obtain ⟨_, _, _, h | h⟩ := v.queueEvent_spec m c fr o pl <;> rw [h] <;> rfl
@[simp] theorem Vexone.queueEvent_fresh (v : Vexone) (m : Master) (c : Nat) (fr : BitVec 32) (o : Nat) (pl : List Byte) : (v.queueEvent m c fr o pl).fresh = v.fresh := by
  obtain ⟨_, _, _, h | h⟩ := v.queueEvent_spec m c fr o pl <;> rw [h] <;> rfl
@[simp] theorem Vexone.queueEvent_busCap (v : Vexone) (m : Master) (c : Nat) (fr : BitVec 32) (o : Nat) (pl : List Byte) : (v.queueEvent m c fr o pl).busCap = v.busCap := by
  obtain ⟨_, _, _, h | h⟩ := v.queueEvent_spec m c fr o pl <;> rw [h] <;> rfl
@[simp] theorem Vexone.queueEvent_later (v : Vexone) (m : Master) (c : Nat) (fr : BitVec 32) (o : Nat) (pl : List Byte) : (v.queueEvent m c fr o pl).later = v.later := by
  obtain ⟨_, _, _, h | h⟩ := v.queueEvent_spec m c fr o pl <;> rw [h] <;> rfl

theorem Vexone.emitAt_induct (P : Vexone → Prop) (v : Vexone) (c : Nat) (fr : BitVec 32) (o : Nat) (pl : List Byte) (h0 : P v)
    (h : ∀ v m, P v → P (v.queueEvent m c fr o pl)) : P (v.emitAt c fr o pl) := by
  unfold Vexone.emitAt
  split
  · split
    · exact h _ _ (h _ _ (h _ _ h0))
    · exact h _ _ h0
  · exact h _ _ (h _ _ (h _ _ h0))

@[simp] theorem Vexone.emitAt_pw (v : Vexone) (c : Nat) (fr : BitVec 32) (o : Nat) (pl : List Byte) : (v.emitAt c fr o pl).pw = v.pw := 
  v.emitAt_induct (fun w => w.pw = v.pw) c fr o pl rfl fun w m h => (w.queueEvent_pw m c fr o pl).trans h
@[simp] theorem Vexone.emitAt_clk (v : Vexone) (c : Nat) (fr : BitVec 32) (o : Nat) (pl : List Byte) : (v.emitAt c fr o pl).clk = v.clk := 
  v.emitAt_induct (fun w => w.clk = v.clk) c fr o pl rfl fun w m h => (w.queueEvent_clk m c fr o pl).trans h
@[simp] theorem Vexone.emitAt_fr (v : Vexone) (c : Nat) (fr : BitVec 32) (o : Nat) (pl : List Byte) : (v.emitAt c fr o pl).fr = v.fr := 
  v.emitAt_induct (fun w => w.fr = v.fr) c fr o pl rfl fun w m h => (w.queueEvent_fr m c fr o pl).trans h
@[simp] theorem Vexone.emitAt_regs_wr (v : Vexone) (c : Nat) (fr : BitVec 32) (o : Nat) (pl : List Byte) : (v.emitAt c fr o pl).regs.wr = v.regs.wr := 
  v.emitAt_induct (fun w => w.regs.wr = v.regs.wr) c fr o pl rfl fun w m h => (w.queueEvent_regs_wr m c fr o pl).trans h
@[simp] theorem Vexone.emitAt_regs_inForce (v : Vexone) (c : Nat) (fr : BitVec 32) (o : Nat) (pl : List Byte) : (v.emitAt c fr o pl).regs.inForce = v.regs.inForce := 
  v.emitAt_induct (fun w => w.regs.inForce = v.regs.inForce) c fr o pl rfl fun w m h => (w.queueEvent_regs_inForce m c fr o pl).trans h
@[simp] theorem Vexone.emitAt_regs_fresh (v : Vexone) (c : Nat) (fr : BitVec 32) (o : Nat) (pl : List Byte) : (v.emitAt c fr o pl).regs.fresh = v.regs.fresh := 
  v.emitAt_induct (fun w => w.regs.fresh = v.regs.fresh) c fr o pl rfl fun w m h => (w.queueEvent_regs_fresh m c fr o pl).trans h
@[simp] theorem Vexone.emitAt_fnEn (v : Vexone) (c : Nat) (fr : BitVec 32) (o : Nat) (pl : List Byte) : (v.emitAt c fr o pl).fnEn = v.fnEn := 
  v.emitAt_induct (fun w => w.fnEn = v.fnEn) c fr o pl rfl fun w m h => (w.queueEvent_fnEn m c fr o pl).trans h
@[simp] theorem Vexone.emitAt_pairs (v : Vexone) (c : Nat) (fr : BitVec 32) (o : Nat) (pl : List Byte) : (v.emitAt c fr o pl).pairs = v.pairs := 
  v.emitAt_induct (fun w => w.pairs = v.pairs) c fr o pl rfl fun w m h => (w.queueEvent_pairs m c fr o pl).trans h
@[simp] theorem Vexone.emitAt_hal (v : Vexone) (c : Nat) (fr : BitVec 32) (o : Nat) (pl : List Byte) : (v.emitAt c fr o pl).hal = v.hal := 
  v.emitAt_induct (fun w => w.hal = v.hal) c fr o pl rfl fun w m h => (w.queueEvent_hal m c fr o pl).trans h
@[simp] theorem Vexone.emitAt_portA (v : Vexone) (c : Nat) (fr : BitVec 32) (o : Nat) (pl : List Byte) : (v.emitAt c fr o pl).portA = v.portA := 
  v.emitAt_induct (fun w => w.portA = v.portA) c fr o pl rfl fun w m h => (w.queueEvent_portA m c fr o pl).trans h
@[simp] theorem Vexone.emitAt_portB (v : Vexone) (c : Nat) (fr : BitVec 32) (o : Nat) (pl : List Byte) : (v.emitAt c fr o pl).portB = v.portB := 
  v.emitAt_induct (fun w => w.portB = v.portB) c fr o pl rfl fun w m h => (w.queueEvent_portB m c fr o pl).trans h
@[simp] theorem Vexone.emitAt_ops (v : Vexone) (c : Nat) (fr : BitVec 32) (o : Nat) (pl : List Byte) : (v.emitAt c fr o pl).ops = v.ops := 
  v.emitAt_induct (fun w => w.ops = v.ops) c fr o pl rfl fun w m h => (w.queueEvent_ops m c fr o pl).trans h
@[simp] theorem Vexone.emitAt_opSeq (v : Vexone) (c : Nat) (fr : BitVec 32) (o : Nat) (pl : List Byte) : (v.emitAt c fr o pl).opSeq = v.opSeq := 
  v.emitAt_induct (fun w => w.opSeq = v.opSeq) c fr o pl rfl fun w m h => (w.queueEvent_opSeq m c fr o pl).trans h
@[simp] theorem Vexone.emitAt_reads (v : Vexone) (c : Nat) (fr : BitVec 32) (o : Nat) (pl : List Byte) : (v.emitAt c fr o pl).reads = v.reads := 
  v.emitAt_induct (fun w => w.reads = v.reads) c fr o pl rfl fun w m h => (w.queueEvent_reads m c fr o pl).trans h
@[simp] theorem Vexone.emitAt_nextRid (v : Vexone) (c : Nat) (fr : BitVec 32) (o : Nat) (pl : List Byte) : (v.emitAt c fr o pl).nextRid = v.nextRid := 
  v.emitAt_induct (fun w => w.nextRid = v.nextRid) c fr o pl rfl fun w m h => (w.queueEvent_nextRid m c fr o pl).trans h
@[simp] theorem Vexone.emitAt_out (v : Vexone) (c : Nat) (fr : BitVec 32) (o : Nat) (pl : List Byte) : (v.emitAt c fr o pl).out = v.out := 
  v.emitAt_induct (fun w => w.out = v.out) c fr o pl rfl fun w m h => (w.queueEvent_out m c fr o pl).trans h
@[simp] theorem Vexone.emitAt_img (v : Vexone) (c : Nat) (fr : BitVec 32) (o : Nat) (pl : List Byte) : (v.emitAt c fr o pl).img = v.img := 
  v.emitAt_induct (fun w => w.img = v.img) c fr o pl rfl fun w m h => (w.queueEvent_img m c fr o pl).trans h
@[simp] theorem Vexone.emitAt_sch (v : Vexone) (c : Nat) (fr : BitVec 32) (o : Nat) (pl : List Byte) : (v.emitAt c fr o pl).sch = v.sch := 
  v.emitAt_induct (fun w => w.sch = v.sch) c fr o pl rfl fun w m h => (w.queueEvent_sch m c fr o pl).trans h
@[simp] theorem Vexone.emitAt_segs (v : Vexone) (c : Nat) (fr : BitVec 32) (o : Nat) (pl : List Byte) : (v.emitAt c fr o pl).segs = v.segs := 
  v.emitAt_induct (fun w => w.segs = v.segs) c fr o pl rfl fun w m h => (w.queueEvent_segs m c fr o pl).trans h
@[simp] theorem Vexone.emitAt_lanes (v : Vexone) (c : Nat) (fr : BitVec 32) (o : Nat) (pl : List Byte) : (v.emitAt c fr o pl).lanes = v.lanes := 
  v.emitAt_induct (fun w => w.lanes = v.lanes) c fr o pl rfl fun w m h => (w.queueEvent_lanes m c fr o pl).trans h
@[simp] theorem Vexone.emitAt_sess (v : Vexone) (c : Nat) (fr : BitVec 32) (o : Nat) (pl : List Byte) : (v.emitAt c fr o pl).sess = v.sess := 
  v.emitAt_induct (fun w => w.sess = v.sess) c fr o pl rfl fun w m h => (w.queueEvent_sess m c fr o pl).trans h
@[simp] theorem Vexone.emitAt_cx (v : Vexone) (c : Nat) (fr : BitVec 32) (o : Nat) (pl : List Byte) : (v.emitAt c fr o pl).cx = v.cx := 
  v.emitAt_induct (fun w => w.cx = v.cx) c fr o pl rfl fun w m h => (w.queueEvent_cx m c fr o pl).trans h
@[simp] theorem Vexone.emitAt_fb (v : Vexone) (c : Nat) (fr : BitVec 32) (o : Nat) (pl : List Byte) : (v.emitAt c fr o pl).fb = v.fb := 
  v.emitAt_induct (fun w => w.fb = v.fb) c fr o pl rfl fun w m h => (w.queueEvent_fb m c fr o pl).trans h
@[simp] theorem Vexone.emitAt_ax (v : Vexone) (c : Nat) (fr : BitVec 32) (o : Nat) (pl : List Byte) : (v.emitAt c fr o pl).ax = v.ax := 
  v.emitAt_induct (fun w => w.ax = v.ax) c fr o pl rfl fun w m h => (w.queueEvent_ax m c fr o pl).trans h
@[simp] theorem Vexone.emitAt_motors (v : Vexone) (c : Nat) (fr : BitVec 32) (o : Nat) (pl : List Byte) : (v.emitAt c fr o pl).motors = v.motors := 
  v.emitAt_induct (fun w => w.motors = v.motors) c fr o pl rfl fun w m h => (w.queueEvent_motors m c fr o pl).trans h
@[simp] theorem Vexone.emitAt_mbus (v : Vexone) (c : Nat) (fr : BitVec 32) (o : Nat) (pl : List Byte) : (v.emitAt c fr o pl).mbus = v.mbus := 
  v.emitAt_induct (fun w => w.mbus = v.mbus) c fr o pl rfl fun w m h => (w.queueEvent_mbus m c fr o pl).trans h
@[simp] theorem Vexone.emitAt_eg (v : Vexone) (c : Nat) (fr : BitVec 32) (o : Nat) (pl : List Byte) : (v.emitAt c fr o pl).eg = v.eg := 
  v.emitAt_induct (fun w => w.eg = v.eg) c fr o pl rfl fun w m h => (w.queueEvent_eg m c fr o pl).trans h
@[simp] theorem Vexone.emitAt_res (v : Vexone) (c : Nat) (fr : BitVec 32) (o : Nat) (pl : List Byte) : (v.emitAt c fr o pl).res = v.res := 
  v.emitAt_induct (fun w => w.res = v.res) c fr o pl rfl fun w m h => (w.queueEvent_res m c fr o pl).trans h
@[simp] theorem Vexone.emitAt_mains (v : Vexone) (c : Nat) (fr : BitVec 32) (o : Nat) (pl : List Byte) : (v.emitAt c fr o pl).mains = v.mains := 
  v.emitAt_induct (fun w => w.mains = v.mains) c fr o pl rfl fun w m h => (w.queueEvent_mains m c fr o pl).trans h
@[simp] theorem Vexone.emitAt_th (v : Vexone) (c : Nat) (fr : BitVec 32) (o : Nat) (pl : List Byte) : (v.emitAt c fr o pl).th = v.th := 
  v.emitAt_induct (fun w => w.th = v.th) c fr o pl rfl fun w m h => (w.queueEvent_th m c fr o pl).trans h
@[simp] theorem Vexone.emitAt_fans (v : Vexone) (c : Nat) (fr : BitVec 32) (o : Nat) (pl : List Byte) : (v.emitAt c fr o pl).fans = v.fans := 
  v.emitAt_induct (fun w => w.fans = v.fans) c fr o pl rfl fun w m h => (w.queueEvent_fans m c fr o pl).trans h
@[simp] theorem Vexone.emitAt_fwd (v : Vexone) (c : Nat) (fr : BitVec 32) (o : Nat) (pl : List Byte) : (v.emitAt c fr o pl).fwd = v.fwd := 
  v.emitAt_induct (fun w => w.fwd = v.fwd) c fr o pl rfl fun w m h => (w.queueEvent_fwd m c fr o pl).trans h
@[simp] theorem Vexone.emitAt_rack (v : Vexone) (c : Nat) (fr : BitVec 32) (o : Nat) (pl : List Byte) : (v.emitAt c fr o pl).rack = v.rack := 
  v.emitAt_induct (fun w => w.rack = v.rack) c fr o pl rfl fun w m h => (w.queueEvent_rack m c fr o pl).trans h
@[simp] theorem Vexone.emitAt_diags (v : Vexone) (c : Nat) (fr : BitVec 32) (o : Nat) (pl : List Byte) : (v.emitAt c fr o pl).diags = v.diags := 
  v.emitAt_induct (fun w => w.diags = v.diags) c fr o pl rfl fun w m h => (w.queueEvent_diags m c fr o pl).trans h
@[simp] theorem Vexone.emitAt_lin (v : Vexone) (c : Nat) (fr : BitVec 32) (o : Nat) (pl : List Byte) : (v.emitAt c fr o pl).lin = v.lin := 
  v.emitAt_induct (fun w => w.lin = v.lin) c fr o pl rfl fun w m h => (w.queueEvent_lin m c fr o pl).trans h
@[simp] theorem Vexone.emitAt_fresh (v : Vexone) (c : Nat) (fr : BitVec 32) (o : Nat) (pl : List Byte) : (v.emitAt c fr o pl).fresh = v.fresh := 
  v.emitAt_induct (fun w => w.fresh = v.fresh) c fr o pl rfl fun w m h => (w.queueEvent_fresh m c fr o pl).trans h
@[simp] theorem Vexone.emitAt_busCap (v : Vexone) (c : Nat) (fr : BitVec 32) (o : Nat) (pl : List Byte) : (v.emitAt c fr o pl).busCap = v.busCap := 
  v.emitAt_induct (fun w => w.busCap = v.busCap) c fr o pl rfl fun w m h => (w.queueEvent_busCap m c fr o pl).trans h
@[simp] theorem Vexone.emitAt_later (v : Vexone) (c : Nat) (fr : BitVec 32) (o : Nat) (pl : List Byte) : (v.emitAt c fr o pl).later = v.later := 
  v.emitAt_induct (fun w => w.later = v.later) c fr o pl rfl fun w m h => (w.queueEvent_later m c fr o pl).trans h

@[simp] theorem Vexone.emit_pw (v : Vexone) (c : Nat) (pl : List Byte) : (v.emit c pl).pw = v.pw := v.emitAt_pw c _ _ pl
@[simp] theorem Vexone.emit_clk (v : Vexone) (c : Nat) (pl : List Byte) : (v.emit c pl).clk = v.clk := v.emitAt_clk c _ _ pl
@[simp] theorem Vexone.emit_fr (v : Vexone) (c : Nat) (pl : List Byte) : (v.emit c pl).fr = v.fr := v.emitAt_fr c _ _ pl
@[simp] theorem Vexone.emit_regs_wr (v : Vexone) (c : Nat) (pl : List Byte) : (v.emit c pl).regs.wr = v.regs.wr := v.emitAt_regs_wr c _ _ pl
@[simp] theorem Vexone.emit_regs_inForce (v : Vexone) (c : Nat) (pl : List Byte) : (v.emit c pl).regs.inForce = v.regs.inForce := v.emitAt_regs_inForce c _ _ pl
@[simp] theorem Vexone.emit_regs_fresh (v : Vexone) (c : Nat) (pl : List Byte) : (v.emit c pl).regs.fresh = v.regs.fresh := v.emitAt_regs_fresh c _ _ pl
@[simp] theorem Vexone.emit_fnEn (v : Vexone) (c : Nat) (pl : List Byte) : (v.emit c pl).fnEn = v.fnEn := v.emitAt_fnEn c _ _ pl
@[simp] theorem Vexone.emit_pairs (v : Vexone) (c : Nat) (pl : List Byte) : (v.emit c pl).pairs = v.pairs := v.emitAt_pairs c _ _ pl
@[simp] theorem Vexone.emit_hal (v : Vexone) (c : Nat) (pl : List Byte) : (v.emit c pl).hal = v.hal := v.emitAt_hal c _ _ pl
@[simp] theorem Vexone.emit_portA (v : Vexone) (c : Nat) (pl : List Byte) : (v.emit c pl).portA = v.portA := v.emitAt_portA c _ _ pl
@[simp] theorem Vexone.emit_portB (v : Vexone) (c : Nat) (pl : List Byte) : (v.emit c pl).portB = v.portB := v.emitAt_portB c _ _ pl
@[simp] theorem Vexone.emit_ops (v : Vexone) (c : Nat) (pl : List Byte) : (v.emit c pl).ops = v.ops := v.emitAt_ops c _ _ pl
@[simp] theorem Vexone.emit_opSeq (v : Vexone) (c : Nat) (pl : List Byte) : (v.emit c pl).opSeq = v.opSeq := v.emitAt_opSeq c _ _ pl
@[simp] theorem Vexone.emit_reads (v : Vexone) (c : Nat) (pl : List Byte) : (v.emit c pl).reads = v.reads := v.emitAt_reads c _ _ pl
@[simp] theorem Vexone.emit_nextRid (v : Vexone) (c : Nat) (pl : List Byte) : (v.emit c pl).nextRid = v.nextRid := v.emitAt_nextRid c _ _ pl
@[simp] theorem Vexone.emit_out (v : Vexone) (c : Nat) (pl : List Byte) : (v.emit c pl).out = v.out := v.emitAt_out c _ _ pl
@[simp] theorem Vexone.emit_img (v : Vexone) (c : Nat) (pl : List Byte) : (v.emit c pl).img = v.img := v.emitAt_img c _ _ pl
@[simp] theorem Vexone.emit_sch (v : Vexone) (c : Nat) (pl : List Byte) : (v.emit c pl).sch = v.sch := v.emitAt_sch c _ _ pl
@[simp] theorem Vexone.emit_segs (v : Vexone) (c : Nat) (pl : List Byte) : (v.emit c pl).segs = v.segs := v.emitAt_segs c _ _ pl
@[simp] theorem Vexone.emit_lanes (v : Vexone) (c : Nat) (pl : List Byte) : (v.emit c pl).lanes = v.lanes := v.emitAt_lanes c _ _ pl
@[simp] theorem Vexone.emit_sess (v : Vexone) (c : Nat) (pl : List Byte) : (v.emit c pl).sess = v.sess := v.emitAt_sess c _ _ pl
@[simp] theorem Vexone.emit_cx (v : Vexone) (c : Nat) (pl : List Byte) : (v.emit c pl).cx = v.cx := v.emitAt_cx c _ _ pl
@[simp] theorem Vexone.emit_fb (v : Vexone) (c : Nat) (pl : List Byte) : (v.emit c pl).fb = v.fb := v.emitAt_fb c _ _ pl
@[simp] theorem Vexone.emit_ax (v : Vexone) (c : Nat) (pl : List Byte) : (v.emit c pl).ax = v.ax := v.emitAt_ax c _ _ pl
@[simp] theorem Vexone.emit_motors (v : Vexone) (c : Nat) (pl : List Byte) : (v.emit c pl).motors = v.motors := v.emitAt_motors c _ _ pl
@[simp] theorem Vexone.emit_mbus (v : Vexone) (c : Nat) (pl : List Byte) : (v.emit c pl).mbus = v.mbus := v.emitAt_mbus c _ _ pl
@[simp] theorem Vexone.emit_eg (v : Vexone) (c : Nat) (pl : List Byte) : (v.emit c pl).eg = v.eg := v.emitAt_eg c _ _ pl
@[simp] theorem Vexone.emit_res (v : Vexone) (c : Nat) (pl : List Byte) : (v.emit c pl).res = v.res := v.emitAt_res c _ _ pl
@[simp] theorem Vexone.emit_mains (v : Vexone) (c : Nat) (pl : List Byte) : (v.emit c pl).mains = v.mains := v.emitAt_mains c _ _ pl
@[simp] theorem Vexone.emit_th (v : Vexone) (c : Nat) (pl : List Byte) : (v.emit c pl).th = v.th := v.emitAt_th c _ _ pl
@[simp] theorem Vexone.emit_fans (v : Vexone) (c : Nat) (pl : List Byte) : (v.emit c pl).fans = v.fans := v.emitAt_fans c _ _ pl
@[simp] theorem Vexone.emit_fwd (v : Vexone) (c : Nat) (pl : List Byte) : (v.emit c pl).fwd = v.fwd := v.emitAt_fwd c _ _ pl
@[simp] theorem Vexone.emit_rack (v : Vexone) (c : Nat) (pl : List Byte) : (v.emit c pl).rack = v.rack := v.emitAt_rack c _ _ pl
@[simp] theorem Vexone.emit_diags (v : Vexone) (c : Nat) (pl : List Byte) : (v.emit c pl).diags = v.diags := v.emitAt_diags c _ _ pl
@[simp] theorem Vexone.emit_lin (v : Vexone) (c : Nat) (pl : List Byte) : (v.emit c pl).lin = v.lin := v.emitAt_lin c _ _ pl
@[simp] theorem Vexone.emit_fresh (v : Vexone) (c : Nat) (pl : List Byte) : (v.emit c pl).fresh = v.fresh := v.emitAt_fresh c _ _ pl
@[simp] theorem Vexone.emit_busCap (v : Vexone) (c : Nat) (pl : List Byte) : (v.emit c pl).busCap = v.busCap := v.emitAt_busCap c _ _ pl
@[simp] theorem Vexone.emit_later (v : Vexone) (c : Nat) (pl : List Byte) : (v.emit c pl).later = v.later := v.emitAt_later c _ _ pl

@[simp] theorem Vexone.latchEv_pw (v : Vexone) (c : Nat) (m : BitVec 16) (ev : Nat) (pl : List Byte) : (v.latchEv c m ev pl).pw = v.pw := by
  unfold Vexone.latchEv; simp only; split <;> simp
@[simp] theorem Vexone.latchEv_clk (v : Vexone) (c : Nat) (m : BitVec 16) (ev : Nat) (pl : List Byte) : (v.latchEv c m ev pl).clk = v.clk := by
  unfold Vexone.latchEv; simp only; split <;> simp
@[simp] theorem Vexone.latchEv_fr (v : Vexone) (c : Nat) (m : BitVec 16) (ev : Nat) (pl : List Byte) : (v.latchEv c m ev pl).fr = v.fr := by
  unfold Vexone.latchEv; simp only; split <;> simp
@[simp] theorem Vexone.latchEv_regs_wr (v : Vexone) (c : Nat) (m : BitVec 16) (ev : Nat) (pl : List Byte) : (v.latchEv c m ev pl).regs.wr = v.regs.wr := by
  unfold Vexone.latchEv; simp only; split <;> simp
@[simp] theorem Vexone.latchEv_regs_inForce (v : Vexone) (c : Nat) (m : BitVec 16) (ev : Nat) (pl : List Byte) : (v.latchEv c m ev pl).regs.inForce = v.regs.inForce := by
  unfold Vexone.latchEv; simp only; split <;> simp
@[simp] theorem Vexone.latchEv_regs_fresh (v : Vexone) (c : Nat) (m : BitVec 16) (ev : Nat) (pl : List Byte) : (v.latchEv c m ev pl).regs.fresh = v.regs.fresh := by
  unfold Vexone.latchEv; simp only; split <;> simp
@[simp] theorem Vexone.latchEv_fnEn (v : Vexone) (c : Nat) (m : BitVec 16) (ev : Nat) (pl : List Byte) : (v.latchEv c m ev pl).fnEn = v.fnEn := by
  unfold Vexone.latchEv; simp only; split <;> simp
@[simp] theorem Vexone.latchEv_pairs (v : Vexone) (c : Nat) (m : BitVec 16) (ev : Nat) (pl : List Byte) : (v.latchEv c m ev pl).pairs = v.pairs := by
  unfold Vexone.latchEv; simp only; split <;> simp
@[simp] theorem Vexone.latchEv_hal (v : Vexone) (c : Nat) (m : BitVec 16) (ev : Nat) (pl : List Byte) : (v.latchEv c m ev pl).hal = v.hal := by
  unfold Vexone.latchEv; simp only; split <;> simp
@[simp] theorem Vexone.latchEv_portA (v : Vexone) (c : Nat) (m : BitVec 16) (ev : Nat) (pl : List Byte) : (v.latchEv c m ev pl).portA = v.portA := by
  unfold Vexone.latchEv; simp only; split <;> simp
@[simp] theorem Vexone.latchEv_portB (v : Vexone) (c : Nat) (m : BitVec 16) (ev : Nat) (pl : List Byte) : (v.latchEv c m ev pl).portB = v.portB := by
  unfold Vexone.latchEv; simp only; split <;> simp
@[simp] theorem Vexone.latchEv_ops (v : Vexone) (c : Nat) (m : BitVec 16) (ev : Nat) (pl : List Byte) : (v.latchEv c m ev pl).ops = v.ops := by
  unfold Vexone.latchEv; simp only; split <;> simp
@[simp] theorem Vexone.latchEv_opSeq (v : Vexone) (c : Nat) (m : BitVec 16) (ev : Nat) (pl : List Byte) : (v.latchEv c m ev pl).opSeq = v.opSeq := by
  unfold Vexone.latchEv; simp only; split <;> simp
@[simp] theorem Vexone.latchEv_reads (v : Vexone) (c : Nat) (m : BitVec 16) (ev : Nat) (pl : List Byte) : (v.latchEv c m ev pl).reads = v.reads := by
  unfold Vexone.latchEv; simp only; split <;> simp
@[simp] theorem Vexone.latchEv_nextRid (v : Vexone) (c : Nat) (m : BitVec 16) (ev : Nat) (pl : List Byte) : (v.latchEv c m ev pl).nextRid = v.nextRid := by
  unfold Vexone.latchEv; simp only; split <;> simp
@[simp] theorem Vexone.latchEv_out (v : Vexone) (c : Nat) (m : BitVec 16) (ev : Nat) (pl : List Byte) : (v.latchEv c m ev pl).out = v.out := by
  unfold Vexone.latchEv; simp only; split <;> simp
@[simp] theorem Vexone.latchEv_img (v : Vexone) (c : Nat) (m : BitVec 16) (ev : Nat) (pl : List Byte) : (v.latchEv c m ev pl).img = v.img := by
  unfold Vexone.latchEv; simp only; split <;> simp
@[simp] theorem Vexone.latchEv_sch (v : Vexone) (c : Nat) (m : BitVec 16) (ev : Nat) (pl : List Byte) : (v.latchEv c m ev pl).sch = v.sch := by
  unfold Vexone.latchEv; simp only; split <;> simp
@[simp] theorem Vexone.latchEv_segs (v : Vexone) (c : Nat) (m : BitVec 16) (ev : Nat) (pl : List Byte) : (v.latchEv c m ev pl).segs = v.segs := by
  unfold Vexone.latchEv; simp only; split <;> simp
@[simp] theorem Vexone.latchEv_lanes (v : Vexone) (c : Nat) (m : BitVec 16) (ev : Nat) (pl : List Byte) : (v.latchEv c m ev pl).lanes = v.lanes := by
  unfold Vexone.latchEv; simp only; split <;> simp
@[simp] theorem Vexone.latchEv_sess (v : Vexone) (c : Nat) (m : BitVec 16) (ev : Nat) (pl : List Byte) : (v.latchEv c m ev pl).sess = v.sess := by
  unfold Vexone.latchEv; simp only; split <;> simp
@[simp] theorem Vexone.latchEv_cx (v : Vexone) (c : Nat) (m : BitVec 16) (ev : Nat) (pl : List Byte) : (v.latchEv c m ev pl).cx = v.cx := by
  unfold Vexone.latchEv; simp only; split <;> simp
@[simp] theorem Vexone.latchEv_fb (v : Vexone) (c : Nat) (m : BitVec 16) (ev : Nat) (pl : List Byte) : (v.latchEv c m ev pl).fb = v.fb := by
  unfold Vexone.latchEv; simp only; split <;> simp
@[simp] theorem Vexone.latchEv_ax (v : Vexone) (c : Nat) (m : BitVec 16) (ev : Nat) (pl : List Byte) : (v.latchEv c m ev pl).ax = v.ax := by
  unfold Vexone.latchEv; simp only; split <;> simp
@[simp] theorem Vexone.latchEv_motors (v : Vexone) (c : Nat) (m : BitVec 16) (ev : Nat) (pl : List Byte) : (v.latchEv c m ev pl).motors = v.motors := by
  unfold Vexone.latchEv; simp only; split <;> simp
@[simp] theorem Vexone.latchEv_mbus (v : Vexone) (c : Nat) (m : BitVec 16) (ev : Nat) (pl : List Byte) : (v.latchEv c m ev pl).mbus = v.mbus := by
  unfold Vexone.latchEv; simp only; split <;> simp
@[simp] theorem Vexone.latchEv_eg (v : Vexone) (c : Nat) (m : BitVec 16) (ev : Nat) (pl : List Byte) : (v.latchEv c m ev pl).eg = v.eg := by
  unfold Vexone.latchEv; simp only; split <;> simp
@[simp] theorem Vexone.latchEv_res (v : Vexone) (c : Nat) (m : BitVec 16) (ev : Nat) (pl : List Byte) : (v.latchEv c m ev pl).res = v.res := by
  unfold Vexone.latchEv; simp only; split <;> simp
@[simp] theorem Vexone.latchEv_mains (v : Vexone) (c : Nat) (m : BitVec 16) (ev : Nat) (pl : List Byte) : (v.latchEv c m ev pl).mains = v.mains := by
  unfold Vexone.latchEv; simp only; split <;> simp
@[simp] theorem Vexone.latchEv_th (v : Vexone) (c : Nat) (m : BitVec 16) (ev : Nat) (pl : List Byte) : (v.latchEv c m ev pl).th = v.th := by
  unfold Vexone.latchEv; simp only; split <;> simp
@[simp] theorem Vexone.latchEv_fans (v : Vexone) (c : Nat) (m : BitVec 16) (ev : Nat) (pl : List Byte) : (v.latchEv c m ev pl).fans = v.fans := by
  unfold Vexone.latchEv; simp only; split <;> simp
@[simp] theorem Vexone.latchEv_fwd (v : Vexone) (c : Nat) (m : BitVec 16) (ev : Nat) (pl : List Byte) : (v.latchEv c m ev pl).fwd = v.fwd := by
  unfold Vexone.latchEv; simp only; split <;> simp
@[simp] theorem Vexone.latchEv_rack (v : Vexone) (c : Nat) (m : BitVec 16) (ev : Nat) (pl : List Byte) : (v.latchEv c m ev pl).rack = v.rack := by
  unfold Vexone.latchEv; simp only; split <;> simp
@[simp] theorem Vexone.latchEv_diags (v : Vexone) (c : Nat) (m : BitVec 16) (ev : Nat) (pl : List Byte) : (v.latchEv c m ev pl).diags = v.diags := by
  unfold Vexone.latchEv; simp only; split <;> simp
@[simp] theorem Vexone.latchEv_lin (v : Vexone) (c : Nat) (m : BitVec 16) (ev : Nat) (pl : List Byte) : (v.latchEv c m ev pl).lin = v.lin := by
  unfold Vexone.latchEv; simp only; split <;> simp
@[simp] theorem Vexone.latchEv_fresh (v : Vexone) (c : Nat) (m : BitVec 16) (ev : Nat) (pl : List Byte) : (v.latchEv c m ev pl).fresh = v.fresh := by
  unfold Vexone.latchEv; simp only; split <;> simp
@[simp] theorem Vexone.latchEv_busCap (v : Vexone) (c : Nat) (m : BitVec 16) (ev : Nat) (pl : List Byte) : (v.latchEv c m ev pl).busCap = v.busCap := by
  unfold Vexone.latchEv; simp only; split <;> simp
@[simp] theorem Vexone.latchEv_later (v : Vexone) (c : Nat) (m : BitVec 16) (ev : Nat) (pl : List Byte) : (v.latchEv c m ev pl).later = v.later := by
  unfold Vexone.latchEv; simp only; split <;> simp

@[simp] theorem Vexone.latchF_pw (v : Vexone) (c i : Nat) : (v.latchF c i).pw = v.pw := v.latchEv_pw ..
@[simp] theorem Vexone.latchF_clk (v : Vexone) (c i : Nat) : (v.latchF c i).clk = v.clk := v.latchEv_clk ..
@[simp] theorem Vexone.latchF_fr (v : Vexone) (c i : Nat) : (v.latchF c i).fr = v.fr := v.latchEv_fr ..
@[simp] theorem Vexone.latchF_regs_wr (v : Vexone) (c i : Nat) : (v.latchF c i).regs.wr = v.regs.wr := v.latchEv_regs_wr ..
@[simp] theorem Vexone.latchF_regs_inForce (v : Vexone) (c i : Nat) : (v.latchF c i).regs.inForce = v.regs.inForce := v.latchEv_regs_inForce ..
@[simp] theorem Vexone.latchF_regs_fresh (v : Vexone) (c i : Nat) : (v.latchF c i).regs.fresh = v.regs.fresh := v.latchEv_regs_fresh ..
@[simp] theorem Vexone.latchF_fnEn (v : Vexone) (c i : Nat) : (v.latchF c i).fnEn = v.fnEn := v.latchEv_fnEn ..
@[simp] theorem Vexone.latchF_pairs (v : Vexone) (c i : Nat) : (v.latchF c i).pairs = v.pairs := v.latchEv_pairs ..
@[simp] theorem Vexone.latchF_hal (v : Vexone) (c i : Nat) : (v.latchF c i).hal = v.hal := v.latchEv_hal ..
@[simp] theorem Vexone.latchF_portA (v : Vexone) (c i : Nat) : (v.latchF c i).portA = v.portA := v.latchEv_portA ..
@[simp] theorem Vexone.latchF_portB (v : Vexone) (c i : Nat) : (v.latchF c i).portB = v.portB := v.latchEv_portB ..
@[simp] theorem Vexone.latchF_ops (v : Vexone) (c i : Nat) : (v.latchF c i).ops = v.ops := v.latchEv_ops ..
@[simp] theorem Vexone.latchF_opSeq (v : Vexone) (c i : Nat) : (v.latchF c i).opSeq = v.opSeq := v.latchEv_opSeq ..
@[simp] theorem Vexone.latchF_reads (v : Vexone) (c i : Nat) : (v.latchF c i).reads = v.reads := v.latchEv_reads ..
@[simp] theorem Vexone.latchF_nextRid (v : Vexone) (c i : Nat) : (v.latchF c i).nextRid = v.nextRid := v.latchEv_nextRid ..
@[simp] theorem Vexone.latchF_out (v : Vexone) (c i : Nat) : (v.latchF c i).out = v.out := v.latchEv_out ..
@[simp] theorem Vexone.latchF_img (v : Vexone) (c i : Nat) : (v.latchF c i).img = v.img := v.latchEv_img ..
@[simp] theorem Vexone.latchF_sch (v : Vexone) (c i : Nat) : (v.latchF c i).sch = v.sch := v.latchEv_sch ..
@[simp] theorem Vexone.latchF_segs (v : Vexone) (c i : Nat) : (v.latchF c i).segs = v.segs := v.latchEv_segs ..
@[simp] theorem Vexone.latchF_lanes (v : Vexone) (c i : Nat) : (v.latchF c i).lanes = v.lanes := v.latchEv_lanes ..
@[simp] theorem Vexone.latchF_sess (v : Vexone) (c i : Nat) : (v.latchF c i).sess = v.sess := v.latchEv_sess ..
@[simp] theorem Vexone.latchF_cx (v : Vexone) (c i : Nat) : (v.latchF c i).cx = v.cx := v.latchEv_cx ..
@[simp] theorem Vexone.latchF_fb (v : Vexone) (c i : Nat) : (v.latchF c i).fb = v.fb := v.latchEv_fb ..
@[simp] theorem Vexone.latchF_ax (v : Vexone) (c i : Nat) : (v.latchF c i).ax = v.ax := v.latchEv_ax ..
@[simp] theorem Vexone.latchF_motors (v : Vexone) (c i : Nat) : (v.latchF c i).motors = v.motors := v.latchEv_motors ..
@[simp] theorem Vexone.latchF_mbus (v : Vexone) (c i : Nat) : (v.latchF c i).mbus = v.mbus := v.latchEv_mbus ..
@[simp] theorem Vexone.latchF_eg (v : Vexone) (c i : Nat) : (v.latchF c i).eg = v.eg := v.latchEv_eg ..
@[simp] theorem Vexone.latchF_res (v : Vexone) (c i : Nat) : (v.latchF c i).res = v.res := v.latchEv_res ..
@[simp] theorem Vexone.latchF_mains (v : Vexone) (c i : Nat) : (v.latchF c i).mains = v.mains := v.latchEv_mains ..
@[simp] theorem Vexone.latchF_th (v : Vexone) (c i : Nat) : (v.latchF c i).th = v.th := v.latchEv_th ..
@[simp] theorem Vexone.latchF_fans (v : Vexone) (c i : Nat) : (v.latchF c i).fans = v.fans := v.latchEv_fans ..
@[simp] theorem Vexone.latchF_fwd (v : Vexone) (c i : Nat) : (v.latchF c i).fwd = v.fwd := v.latchEv_fwd ..
@[simp] theorem Vexone.latchF_rack (v : Vexone) (c i : Nat) : (v.latchF c i).rack = v.rack := v.latchEv_rack ..
@[simp] theorem Vexone.latchF_diags (v : Vexone) (c i : Nat) : (v.latchF c i).diags = v.diags := v.latchEv_diags ..
@[simp] theorem Vexone.latchF_lin (v : Vexone) (c i : Nat) : (v.latchF c i).lin = v.lin := v.latchEv_lin ..
@[simp] theorem Vexone.latchF_fresh (v : Vexone) (c i : Nat) : (v.latchF c i).fresh = v.fresh := v.latchEv_fresh ..
@[simp] theorem Vexone.latchF_busCap (v : Vexone) (c i : Nat) : (v.latchF c i).busCap = v.busCap := v.latchEv_busCap ..
@[simp] theorem Vexone.latchF_later (v : Vexone) (c i : Nat) : (v.latchF c i).later = v.later := v.latchEv_later ..

/-- A latched instance stays latched through an event. -/
theorem Vexone.latched_queueEvent (v : Vexone) (m : Master) (c : Nat) (fr : BitVec 32) (o : Nat) (pl : List Byte) (d i : Nat)
    (h : v.latched d i = true) : (v.queueEvent m c fr o pl).latched d i = true := by
  obtain ⟨ms, dc, hot, e | e⟩ := v.queueEvent_spec m c fr o pl
  · rw [e]; exact h
  · rw [e]
    by_cases hd : d = 0x0406
    · subst hd
      rw [Vexone.latched, Vexone.latchRaw_mask, Vexone.faultPlace_own _ _ rfl, Vexone.fault_code]
      rw [Vexone.latched] at h
      have : (({ v with ms := ms, dcnt := dc, regs := { v.regs with hot := hot } } : Vexone).fault 0x0406) = v.fault 0x0406 := rfl
      simp [this, h]
    · unfold Vexone.latched
      rw [Vexone.latchRaw_fault_other _ _ _ _ hd (.inr rfl)]
      exact h

theorem Vexone.latched_emitAt (v : Vexone) (c : Nat) (fr : BitVec 32) (o : Nat) (pl : List Byte) (d i : Nat)
    (h : v.latched d i = true) : (v.emitAt c fr o pl).latched d i = true :=
  v.emitAt_induct (fun w => w.latched d i = true) c fr o pl h fun w m h => w.latched_queueEvent m c fr o pl d i h

theorem Vexone.latched_emit (v : Vexone) (c : Nat) (pl : List Byte) (d i : Nat) (h : v.latched d i = true) :
    (v.emit c pl).latched d i = true := v.latched_emitAt c _ _ pl d i h

theorem Vexone.latched_latchEv (v : Vexone) (c : Nat) (m : BitVec 16) (ev : Nat) (pl : List Byte) (i : Nat)
    (h : m.getLsbD i = true) : (v.latchEv c m ev pl).latched c i = true := by
  unfold Vexone.latchEv
  simp only
  split
  · exact Vexone.latched_emit _ _ _ _ _ (v.latched_latchRaw c m i h)
  · exact v.latched_latchRaw c m i h

theorem oneHot_self (i : Nat) (h : i < 16) : (oneHot 16 i).getLsbD i = true := by
  unfold oneHot
  rw [BitVec.getLsbD_ofNat]
  simp [h, Nat.testBit_shiftLeft]

theorem Vexone.latched_latchF (v : Vexone) (c i : Nat) (h : i < 16) : (v.latchF c i).latched c i = true :=
  v.latched_latchEv c _ _ _ i (oneHot_self i h)

/-! ## The operation at a place -/

theorem Vexone.opAt_place {v : Vexone} {p : Place} {o : Op} (h : v.opAt p = some o) : o.place = p := by
  unfold Vexone.opAt at h
  simpa using List.find?_some h

theorem find_map_place (l : List Op) (p : Place) (f : Op → Op) (hf : ∀ o, (f o).place = o.place) :
    (l.map fun o => if o.place = p then f o else o).find? (fun o => o.place == p) =
      (l.find? fun o => o.place == p).map f := by
  induction l with
  | nil => rfl
  | cons o os ih =>
    by_cases h : o.place = p
    · simp [h, hf]
    · simp [h, ih]

theorem Vexone.opAt_modOp (v : Vexone) (p : Place) (f : Op → Op) (hf : ∀ o, (f o).place = o.place) :
    (v.modOp p f).opAt p = (v.opAt p).map f := find_map_place v.ops p f hf

/-- A completion at a place that holds an operation is in the holding store. -/
theorem Vexone.opAt_completeAt (v : Vexone) (p : Place) (st d : Nat) (fr : BitVec 32) (off r : Nat) (b : List Byte) (o : Op)
    (h : v.opAt p = some o) :
    (v.completeAt p st d fr off r b).opAt p = some { o with
      phase := .complete { status := BitVec.ofNat 8 st, detail := BitVec.ofNat 16 d, frame := fr, offset := off }, readyAt := r
      result := b } := by
  have key : ∀ w : Vexone, w.ops = v.ops →
      ({ w with ops := w.ops.map fun o => if o.place = p then { o with
          phase := .complete { status := BitVec.ofNat 8 st, detail := BitVec.ofNat 16 d, frame := fr, offset := off }
          readyAt := r, result := b } else o } : Vexone).opAt p = some { o with
        phase := .complete { status := BitVec.ofNat 8 st, detail := BitVec.ofNat 16 d, frame := fr, offset := off }, readyAt := r
        result := b } := by
    intro w hw
    exact (find_map_place w.ops p (fun o => { o with
      phase := .complete { status := BitVec.ofNat 8 st, detail := BitVec.ofNat 16 d, frame := fr, offset := off }
      readyAt := r, result := b }) fun _ => rfl).trans (by rw [hw]; exact congrArg (Option.map _) h)
  unfold Vexone.completeAt
  simp only
  split
  · split
    · exact key _ rfl
    · exact key _ rfl
  · exact key _ rfl

theorem Vexone.completes_completeAt (v : Vexone) (p : Place) (st d : Nat) (fr : BitVec 32) (off r : Nat) (b : List Byte)
    (h : Holds v p) : CompletesWith (v.completeAt p st d fr off r b) p st d := by
  obtain ⟨o, h⟩ := h
  exact ⟨_, _, v.opAt_completeAt p st d fr off r b o h, rfl, rfl, rfl⟩

/-! ## Operations that begin -/

/-- What an operation that begins does: the first check that fails, or else the effect. -/
theorem Vexone.runOp_begins {v : Vexone} {p : Place} {i k : Nat} {o : Op} {e : Entry} {ch : Vexone → Op → Checks}
    {ef : Vexone → Op → Entry → Vexone} (h : Begins v p i o e) (hk : o.opcode = k) :
    v.runOp p i k ch ef =
      match (ch (begun v p i o e) o).first (o.cls == .u) ((opInfo k).any (·.image)) (begun v p i o e).active.isSome
        o.reservedBad with
      | some (st, d) => (begun v p i o e).finish o e st d
      | none => ef (begun v p i o e) o e := by
  obtain ⟨⟨h1, h2⟩, h3, h4, h5, h6⟩ := h
  simp only [Vexone.runOp, h1, h2, h3, h4, h5, h6, hk, Bool.and_true, Bool.not_false, and_self, ite_true]
  rfl

/-- An operation whose checks all pass has its effect. -/
theorem Vexone.runOp_passes {v : Vexone} {p : Place} {i k : Nat} {o : Op} {e : Entry} {ch : Vexone → Op → Checks}
    {ef : Vexone → Op → Entry → Vexone} (h : Begins v p i o e) (hk : o.opcode = k)
    (hc : (ch (begun v p i o e) o).first (o.cls == .u) ((opInfo k).any (·.image)) (begun v p i o e).active.isSome o.reservedBad = none) :
    v.runOp p i k ch ef = ef (begun v p i o e) o e := by
  rw [Vexone.runOp_begins h hk, hc]

/-- An operation that a check stops completes with the status and DETAIL of the first that does. -/
theorem Vexone.runOp_fails {v : Vexone} {p : Place} {i k st d : Nat} {o : Op} {e : Entry} {ch : Vexone → Op → Checks}
    {ef : Vexone → Op → Entry → Vexone} (h : Begins v p i o e) (hk : o.opcode = k)
    (hc : (ch (begun v p i o e) o).first (o.cls == .u) ((opInfo k).any (·.image)) (begun v p i o e).active.isSome o.reservedBad =
      some (st, d)) :
    v.runOp p i k ch ef = leavesFailed v p i o e st d := by
  rw [Vexone.runOp_begins h hk, hc]
  rfl

/-- In a used cleat no operation begins. -/
theorem Vexone.runOp_used {v : Vexone} {p : Place} {i k : Nat} {ch : Vexone → Op → Checks}
    {ef : Vexone → Op → Entry → Vexone} (h : v.sch.used.contains i = true) : v.runOp p i k ch ef = v := by
  unfold Vexone.runOp
  rw [h, Bool.not_true, Bool.and_false]
  rfl

/-- Checks of which none is met pass. -/
theorem Checks.first_none {c : Checks} {u a b r : Bool} (h1 : c = {}) (h2 : r = false) (h3 : a = true → b = true) :
    c.first u a b r = none := by
  subst h1 h2
  cases u <;> cases a <;> cases b <;> simp_all [Checks.first, firstSome]

/-! ## Commands of one die -/

@[simp] theorem onVx_next (s : State) (f : Vexone → Vexone) : onVx s f = .next (withVx s (f s.vx)) := rfl
@[simp] theorem onLav_next (s : State) (f : Lalvo → Lalvo) : onLav s f = .next (withLav s (f s.lav)) := rfl
@[simp] theorem withVx_vx (s : State) (v : Vexone) : (withVx s v).vx = v := rfl
@[simp] theorem withVx_lav (s : State) (v : Vexone) : (withVx s v).lav = s.lav := rfl
@[simp] theorem withLav_lav (s : State) (l : Lalvo) : (withLav s l).lav = l := rfl
@[simp] theorem withVx_only (s : State) (v : Vexone) : OnlyVexone s (withVx s v) := ⟨rfl, rfl, rfl, rfl⟩
@[simp] theorem withLav_only (s : State) (l : Lalvo) : OnlyLalvo s (withLav s l) := ⟨rfl, rfl, rfl, rfl⟩
/-! ## Time -/

theorem Vexone.live_alive (v : Vexone) (e : Edge) (f : Vexone → Vexone) (h : v.alive = true) :
    v.live e f = f (v.atEdge e) := by
  simp [Vexone.live, h]

theorem Vexone.linked_alive (v : Vexone) (e : Edge) (f : Vexone → Vexone) (h : v.alive = true) :
    v.linked e f = f (v.atEdge e) := by
  simp [Vexone.linked, h]

theorem Vexone.access_alive (v : Vexone) (e : Edge) (m : Master) (f : Vexone → Vexone) (h : v.alive = true) :
    v.access e m f = f (v.accessed e m) := by
  simp [Vexone.access, h]

/-- Nothing happens of itself while nothing is left to happen. -/
theorem Vexone.runUpTo_none (v : Vexone) (t n : Nat) (h : v.later = []) : v.runUpTo t n = v := by
  cases n with
  | zero => rfl
  | succ n => simp [Vexone.runUpTo, h]

/-- Nothing happens of itself before the earliest thing left. -/
theorem Vexone.runUpTo_early (v : Vexone) (t n : Nat) (x : Timed) (l : List Timed) (h : v.later = x :: l) (hx : t < x.at_) :
    v.runUpTo t n = v := by
  cases n with
  | zero => rfl
  | succ n => simp [Vexone.runUpTo, h, Nat.not_le.2 hx]

/-- What is left and due happens at its own edge, and then the rest. -/
theorem Vexone.runUpTo_due (v : Vexone) (t n : Nat) (x : Timed) (l : List Timed) (h : v.later = x :: l) (hx : x.at_ ≤ t) :
    v.runUpTo t (n + 1) =
      (({ v with later := l, clk := { v.clk with edge := max v.clk.edge (x.at_ - v.clk.t0) } } : Vexone).runLater x.what).runUpTo
        t n := by
  simp [Vexone.runUpTo, h, hx]

/-- An edge before which nothing falls due changes the time alone. -/
theorem Vexone.atEdge_idle (v : Vexone) (e : Nat) (h : ∀ x ∈ v.later, v.clk.t0 + e < x.at_) :
    v.atEdge e = { v with clk := { v.clk with edge := max v.clk.edge e } } := by
  have : v.runUpTo (v.clk.t0 + e) laterBound = v := by
    cases hl : v.later with
    | nil => exact v.runUpTo_none _ _ hl
    | cons x l => exact v.runUpTo_early _ _ x l hl (h x (by simp [hl]))
  simp only [Vexone.atEdge, this]

/-- A scheduled activity acts at the start of its entry. -/
theorem Vexone.activity_acts {v : Vexone} {i code : Nat} {e : Entry} {f : Entry → Vexone → Vexone} (h : Activity v i code e) :
    v.activity i code f = f e (v.atEdge e.start) := by
  obtain ⟨⟨h1, h2⟩, h3, h4, h5⟩ := h
  simp [Vexone.activity, h1, h2, h3, h4, h5]

/-- The whole of a step: the front command runs on the rest of the queue; an empty queue idles. -/
theorem step_cons (s : State) (c : Instr) (q : List Instr) (h : s.pending = c :: q) :
    step s = exec c { s with pending := q } := by
  simp only [step, h]
  rfl

theorem step_nil (s : State) (h : s.pending = []) : step s = .next s := by
  simp [step, h]

end Sys2Proof.Machine
end

