-- ==== Sys2Proof/WellFormed.lean ====
section
/-! DEFINITION. Which commands carry what can reach the block: the lengths of data that arrives (04 R133, R134; 06 R204; 15
R523) and the times of a cold start (09 Tables 9-2, 9-3). -/

namespace Sys2Proof

/-- The bytes of one read request, at most (04 R133, R134; 15 R523). -/
def readLen : Nat := 512

/-- The longest step 1 of a cold start at a VRECT in mV, us (09 Table 9-3). -/
def step1Us (vrect : Nat) : Nat :=
  if vrect < 100 then 30000 else if vrect < 200 then 8000 else if vrect < 400 then 2000 else 500

/-- The longest that the steps of a cold start from one on take, us (09 Table 9-2). -/
def coldUs (step vrect : Nat) : Nat :=
  (if step ≤ 1 then step1Us vrect else 0) + (if step ≤ 2 then 250 else 0) + (if step ≤ 3 then 500 else 0) + 50

/-- A command is well formed: descriptor data is at most 512 bytes of words, a fill is at most 128 bytes, image and buffer data
are at most one request's, and a cold start is lost in one of its steps before harvesting, if at all, and lasts no longer than
they may. -/
def WellFormed : Instr → Bool
  | .descriptorData _ _ ws => 0 < ws.length && 4 * ws.length ≤ readLen
  | .fillData _ _ bs => 0 < bs.length && bs.length ≤ 128
  | .imageLoadData _ _ bs => 0 < bs.length && bs.length ≤ readLen
  | .bufferData _ _ bs => 0 < bs.length && bs.length ≤ readLen
  | .coldStart r => r.lost.all (fun k => decide (1 ≤ k ∧ k ≤ 4)) && decide (r.us ≤ coldUs 1 r.vrect)
  | _ => true

end Sys2Proof
end

