-- ==== Sys2Proof/Tests/Slice0.lean ====
section
/-! SUPPORT. The model's own tests: the well-formedness checks refuse, small examples of the spec come out as printed, and for
every statement of the obligations a state and operands that meet its hypotheses. -/

namespace Sys2Proof.Tests

open Sys2Proof Sys2Proof.Machine Sys2Proof.Safety

/-! ## Small states -/

/-- The device right after its first lock. -/
def ticking : Vexone := { Vexone.reset with clk := { Clock.reset with ticking := true, backup := false, lock := true } }

/-- A gate that declares everything. -/
def allDecl : Decl :=
  { deploy := 0, lanes := 0xF, segs := 0xFFFF, motors := 0xF, motorMode := 0, rails := 7, fans := 0xF, therms := 0xFF,
    pockets := 0, lins := 0xFFFF, fieldLimit := 1, fbusMax := 1400, mbusNom := 24, cxReserve := 0, loadQuota := 1 }

/-- An image of one template. -/
def imageWith (es : List Entry) : Image :=
  { id := 1, len := 0, egressTpl := 0, quietTpl := 0, decl := allDecl, tpls := [es], seq := [0], keySlot := 0 }

/-- The device under that image. -/
def runs (es : List Entry) : Vexone :=
  { ticking with img := { Images.reset with active := { raw := [], image := some (imageWith es) } }
                 sch := { Sched.reset with run := .ordinary 0 } }

/-- A cleat of a class, with every engine and the store's track; and an activity. -/
def cleat (cl : Cls) : Entry := ⟨0x3F, 1, 1024, clsNum cl, 0, 1024, 0, 0, 0xC000000F⟩
def act (code : Nat) (tracks : BitVec 32) : Entry := ⟨0x3F, 0, 1024, 0, 0, 384, code, 1, tracks⟩

/-- An admitted operation of M0 at place 0. -/
def opOf (cl : Cls) (opcode target : Nat) (args : List Word) : Op :=
  { place := 0, m := .m0, cls := cl, pool := .ownerGen
    words := [BitVec.ofNat 32 (opcode * 65536), BitVec.ofNat 32 (target * 65536), 0, 0] ++ args, admAt := 0, elig := 0,
    bufLeft := 0, bufAsked := 0, buf := [], hadCtx := false, seq := 0, phase := .admitted, readyAt := 0, parked := false,
    orphan := false, result := [], wrote := 0 }

/-- The device with that operation and a cleat of its class. -/
def has (cl : Cls) (opcode target : Nat) (args : List Word) : Vexone :=
  { runs [cleat cl] with ops := [opOf cl opcode target args] }

def withV (v : Vexone) : State := { State.reset with vx := v }
def ownedBy (m : Master) (v : Vexone) : Vexone := { v with hal := { v.hal with st := .owned m } }

/-- The operations of these tests begin. -/
def Starts (cl : Cls) (opcode target : Nat) (args : List Word) (f : Vexone → Vexone) : Prop :=
  Begins (f (has cl opcode target args)) 0 0 (opOf cl opcode target args) (cleat cl) ∧
    (opOf cl opcode target args).reservedBad = false

/-! ## Hypotheses met: time and segment outputs -/

/-- The first segment dark, waiting for its bootstraps; carrying at an amplitude of 8; and with a furl under way. -/
def dark (v : Vexone) : Vexone := v.modSeg 0 fun x => { x with phase := .dark, waitBst := true }
def carrying (v : Vexone) : Vexone := v.modSeg 0 fun x => { x with phase := .carrying, s := 8 }
def changes (d : SegDo) (v : Vexone) : Vexone := (carrying v).modSeg 0 fun x => { x with act := some (64, d) }

theorem wit_time : ticking.later = [] ∧ (ticking.leave 40 .chopLow).later = [⟨40, .chopLow⟩] ∧
    (ticking.leave 40 .chopLow).clk.t0 + 39 < 40 ∧ 40 ≤ (ticking.leave 40 .chopLow).clk.t0 + 40 ∧
    (({ ticking.leave 40 .chopLow with later := [], clk := { ticking.clk with edge := 40 } } : Vexone).runLater .chopLow).later = [] ∧
    (ticking.leave 40 .chopLow).later.Pairwise (fun a b => a.at_ ≤ b.at_) := by decide

theorem wit_crossings : (carrying ticking).segs[0].runs = true ∧ (carrying ticking).segs[0].stopping = false ∧
    ticking.frameStep ≤ 7 ∧ (dark ticking).segs[0].live = true ∧ (dark ticking).segs[0].runs = false ∧
    (∀ d ∈ [SegDo.furl, .dark, .vector 3 9, .start 3 9],
      let v := (changes d ticking).atEdge 16
      v.segs[0].act = some (64, d) ∧ edgeOf 64 ≤ v.now ∧ v.segs[0].live = true) ∧
    (changes .furl ticking).now < edgeOf 64 ∧ (changes .furl ticking).segs[0].runs = true := by decide

theorem wit_legs :
    let x := (carrying ticking).segs[0]
    let m : Motor := { Motor.reset with st := .moving, duty := 500, hall := 1, expect := 1 }
    let v := { ticking with motors := ticking.motors.set 0 m }
    let period := pwmPeriod (v.mf 0 0x04 15 14)
    x.phase = .carrying ∧ x.rest = false ∧ x.dips = [] ∧ x.from_ + 80 ≤ 80 ∧
      ({ x with phase := .faultOff } : Seg).phase = .faultOff ∧ (∃ k : Fin 3, (v.legRoles 0)[k] = .pwm) ∧ m.turnAt + m.dead ≤ 22 ∧
      v.clk.t0 ≤ 22 ∧ 0 < pwmDuty period m.duty ∧ pwmDuty period m.duty < period ∧ ticking.motors[0].st = .disabled := by decide

/-! ## Hypotheses met: frame, clock, device control -/

def onBackup (v : Vexone) : Vexone := { v with clk := { v.clk with backup := true, lock := false } }
def follower (st : FState) (f : FrameRole → FrameRole) : Vexone :=
  { ticking with fr := f { FrameRole.reset with role := 2, st := st } }

theorem wit_reference_loss : ticking.alive = true ∧ (ticking.atEdge 9).pw.stage ≠ .held ∧ (ticking.atEdge 9).onBackup = false ∧
    ((onBackup ticking).atEdge 9).onBackup = true := by decide

theorem wit_clock_restore : Starts .c 0x1A04 0 [] onBackup ∧
    (let b := begun (onBackup (has .c 0x1A04 0 [])) 0 0 (opOf .c 0x1A04 0 []) (cleat .c)
     b.onBackup = true ∧ b.clk.restore = none) := by
  unfold Starts Begins Ticks; decide

def restoring : Vexone := { onBackup ticking with
  clk := { (onBackup ticking).clk with restore := some 0 }
  ops := [{ opOf .c 0x1A04 0 [] with phase := .running }] }

theorem wit_clock_switch : Ticks restoring ∧ restoring.clk.edge = 0 ∧ restoring.clk.backup = true ∧
    restoring.clk.restore = some 0 ∧ Holds restoring 0 ∧ (restoring.atEdge 5).onBackup = true ∧
    (restoring.atEdge 5).clk.restore = some 0 ∧ Holds (restoring.atEdge 5) 0 :=
  ⟨by unfold Ticks; decide, by decide, by decide, by decide, ⟨_, rfl⟩, by decide, by decide, ⟨_, rfl⟩⟩

theorem wit_pll : Vexone.reset.alive = true ∧ Vexone.reset.clk.ticking = false := by decide

theorem wit_frame_role :
    let w := (ownedBy .m0 ticking).accessed 9 .m0
    let u := (ownedBy .m0 ticking).accessed 9 .m1
    (ownedBy .m0 ticking).alive = true ∧ u.isOwner .m1 = false ∧ w.isOwner .m0 = true ∧
      (0x0000FF02 : Word) &&& 0x0000FF03 = 0x0000FF02 ∧ fld 0x0000FF02 1 0 ≠ 3 ∧ w.written 0x0020 ≠ 0x0000FF02 ∧
      w.unfurled = 0 ∧ w.unfurlPending = 0 ∧ w.written 0x0020 = 0 := by decide

/-- A segment of a pair is dark. -/
def unfurledSeg (v : Vexone) : Vexone := v.modSeg 0 fun x => { x with phase := .dark }

theorem wit_frame_role_refused :
    let w := (unfurledSeg (ownedBy .m0 ticking)).accessed 9 .m0
    w.isOwner .m0 = true ∧ w.unfurled ≠ 0 ∧ w.written 0x0020 ≠ 1 := by decide

/-- A pulse at edge 216,958 leads the next tick by 2 CCLK; one at 64 trails this one by 64. -/
theorem wit_follower :
    (let w := (follower .acquiring id).atEdge 64
     (follower .acquiring id).alive = true ∧ w.fr.role = 2 ∧ w.clk.ticking = true ∧ w.fsyncErr w.clk.edge = 64 ∧
       w.fr.st = .acquiring ∧ w.fr.lastWin ≠ w.windowAt w.clk.edge ∧ markerOf 56 ≠ none ∧ markerOf 264 ≠ none ∧ w.fr.seen = false) ∧
    (let w := (follower .acquiring fun f => { f with seen := true, good := 15 }).atEdge 216958
     w.fr.role = 2 ∧ w.clk.ticking = true ∧ w.fsyncErr w.clk.edge = -2 ∧ w.fr.st = .acquiring ∧
       w.fr.lastWin ≠ w.windowAt w.clk.edge ∧ markerOf 72 ≠ none ∧ w.fr.seen = true ∧ w.fr.good = 15) ∧
    (let w := (follower .locked id).atEdge 0
     w.fr.st = .locked ∧ w.fr.lastWin ≠ w.windowAt w.clk.edge ∧ markerOf 55 = none ∧ w.fr.missing = 0 ∧
       w.fsyncErr w.clk.edge = 0) ∧
    (let w := (follower .locked id).atEdge 65
     64 < w.fsyncErr w.clk.edge) ∧ ((ticking.atEdge 5).fr.role ≠ 2) := by decide

theorem wit_follower_misses :
    (∀ k ∈ [0, 1], let w := (follower .locked fun f => { f with missing := k }).atEdge 65
     w.fr.role = 2 ∧ w.clk.ticking = true ∧ w.fr.st = .locked ∧ w.fr.validWin ≠ w.windowAt w.clk.edge ∧
       w.fr.missWin ≠ w.windowAt w.clk.edge ∧ w.fr.missing = k) ∧
    (let w := (follower .locked fun f => { f with missWin := 1 }).atEdge 65
     w.fr.missWin = w.windowAt w.clk.edge) ∧
    (let v := follower .holdover fun f => { f with hold := 64 }
     v.alive = true ∧ v.fr.st = .holdover ∧ 64 ≤ v.fr.hold) ∧ ticking.fr.st ≠ .holdover := by decide

theorem wit_device_control : Starts .c 0x1A06 0 [0x0F08] id ∧ pairNamed 8 0x0F = some (.fanRow 1 7) ∧
    Starts .c 0x1A02 0 [] id ∧ Starts .c 0x1A03 0 [] id ∧ (has .c 0x1A03 0 []).active.isSome = true ∧
    (has .c 0x1A03 0 []).eg.active = false ∧ (has .c 0x1A03 0 []).anyLatched 0x0301 = false ∧
    (let f := fun (v : Vexone) => { v with fr := { v.fr with role := 2, st := .unlocked } }
     let b := begun (f (has .c 0x1A05 0 [])) 0 0 (opOf .c 0x1A05 0 []) (cleat .c)
     Starts .c 0x1A05 0 [] f ∧ b.fr.st = .unlocked ∧ b.onBackup = false) := by
  unfold Starts Begins Ticks; decide

theorem wit_fault_clear : Starts .c 0x1A01 0 [0x07FF] (fun v => v.latchRaw 0x0701 4) ∧ namedCodes 0x07FF ≠ [] ∧
    ((has .c 0x1A01 0 [0x07FF]).latchRaw 0x0701 4).clearPlan 0x07FF = ([], [(0x0701, 4)]) ∧
    Starts .c 0x1A01 0 [0x01FF] (fun v => (onBackup v).latchRaw 0x0101 1) ∧
    ((onBackup (has .c 0x1A01 0 [0x01FF])).latchRaw 0x0101 1).clearPlan 0x01FF = ([0x0101], []) := by
  unfold Starts Begins Ticks; decide

theorem wit_tick : Ticks ticking ∧ ¬ Ticks Vexone.reset ∧ Vexone.reset.pw.stage.resetFrom = none ∧
    (let w := ({ ticking with due := [⟨3, 0, .reef 2 1⟩] } : Vexone).atEdge (frameLen - 1)
     w.due = [⟨3, 0, .reef 2 1⟩] ∧ w.fr.alignLow6 = false ∧ w.fr.alignLow12 = false) ∧
    (let w := ({ ticking with due := [⟨3, 0, .railOn .fb 39⟩] } : Vexone).atEdge (frameLen - 1)
     w.due = [⟨3, 0, .railOn .fb 39⟩] ∧ (w.rail .fb).st = .off) ∧
    (let w := ({ runs [] with due := [⟨3, 0, .quiet⟩] } : Vexone).atEdge (frameLen - 1)
     w.due = [⟨3, 0, .quiet⟩] ∧ w.active.isSome = true ∧ w.img.swap = none ∧ w.eg.active = false ∧ w.eg.judged = 0) := by
  unfold Ticks; decide

def freshReservoir (f : Word) : Vexone :=
  ((ticking.setWritten 0x08D0 (0x32005F00 + f * 65536)).markFresh 0x08D0).atEdge (frameLen - 1)
theorem wit_tick_register : (freshReservoir 80).due = [] ∧ 0x08D0 ∈ (freshReservoir 80).regs.fresh ∧
    fld ((freshReservoir 80).written 0x08D0) 23 16 = 80 ∧ fld ((freshReservoir 171).written 0x08D0) 23 16 = 171 ∧
    fld ((freshReservoir 79).written 0x08D0) 23 16 = 79 ∧ fld ((freshReservoir 172).written 0x08D0) 23 16 = 172 := by decide
theorem wit_template : Ticks (runs []) ∧ (runs []).clk.edge ≤ 200000 ∧ ((runs []).atEdge 199999).img.swap = none ∧
    ((runs []).atEdge 199999).active = some (imageWith []) := ⟨⟨rfl, rfl⟩, by decide, rfl, rfl⟩

theorem wit_diag : Starts .c 0x1901 15 [1] id ∧ Starts .c 0x1901 0 [2] id ∧ Starts .c 0x1901 3 [3] id ∧
    (has .c 0x1901 15 [1]).declSegs.getLsbD 15 = true ∧ (has .c 0x1901 0 [2]).declRails.getLsbD 2 = true ∧
    (has .c 0x1901 3 [3]).declFans.getLsbD 3 = true := by unfold Starts Begins Ticks; decide
def tested : Vexone := { ticking with
  clk := { ticking.clk with ticks := 64 }, diags := [⟨0, 1, 15, 0⟩], ops := [{ opOf .c 0x1901 15 [1] with phase := .running }] }
theorem wit_diag_ends : (⟨0, 1, 15, 0⟩ : Diag) ∈ tested.diags ∧ tested.alive = true ∧ 0 + 64 ≤ tested.clk.ticks ∧ Holds tested 0 :=
  ⟨by decide, rfl, by decide, _, rfl⟩

/-! ## Images and keys -/

theorem wit_image_load :
    let w := ((ownedBy .m1 ticking).setWritten 0x6008 557056).accessed 9 .m1
    ((ownedBy .m1 ticking).accessed 9 .m0).isOwner .m0 = false ∧ w.isOwner .m1 = true ∧ fld 1 0 0 = 1 ∧ fld 2 0 0 = 0 ∧
      w.img.load = none ∧ w.img.abort = false ∧ w.img.proof ≠ .fetching ∧ w.img.proof ≠ .checking ∧ w.img.swap = none ∧
      fld (w.written 0x6008) 19 0 = 557056 ∧
      557056 < fld ((((ownedBy .m1 ticking).setWritten 0x6008 557057).accessed 9 .m1).written 0x6008) 19 0 := by decide

def aLoad : Load := { m := .m0, addr := 4096, len := 512, asked := 512, quotaLeft := 0, issued := 0, start := 0, short := 1 }
def loading (bs : List Byte) (p : ProofSt) (ticks : Nat) : Vexone :=
  { ticking with img := { ticking.img with load := some aLoad, proof := p, standby := { raw := bs, image := none } }
                 clk := { ticking.clk with ticks := ticks }
                 reads := [{ rid := 5, m := .m0, kind := .image 0 512, at_ := 0, limit := 0, got := [] }] }

theorem wit_image_data :
    let w := (loading [] .fetching 0).atEdge 9
    (loading [] .fetching 0).alive = true ∧
      (w.reads.find? fun x => x.rid == 5).map (·.kind) = some (.image 0 512) ∧ w.img.load = some aLoad ∧
      w.img.proof ≠ .checking := ⟨rfl, rfl, rfl, by decide⟩
theorem wit_image_data_lengths : (List.replicate 511 (0 : Byte)).length < 512 ∧ 512 ≤ (List.replicate 512 (0 : Byte)).length := by
  simp only [List.length_replicate]; decide

theorem wit_proof :
    let v := loading [] .checking 12
    Ticks v ∧ v.clk.edge = 0 ∧ v.img.load = some aLoad ∧ v.img.proof = .checking ∧
      aLoad.start + (ceilDiv aLoad.len v.loadQuota + checkFrames v.img.standby.raw + aLoad.short) + 1 ≤ 12 ∧
      0 < aLoad.start + (ceilDiv aLoad.len v.loadQuota + checkFrames v.img.standby.raw + aLoad.short) + 1 := by unfold Ticks; decide

def swapping : Vexone := { runs [] with
  img := { (runs []).img with standby := { raw := [], image := some (imageWith []) }, swap := some ⟨0, 0⟩ }
  ops := [{ opOf .c 0x1801 0 [] with phase := .running }] }
def proofPassed (v : Vexone) : Vexone :=
  { v with img := { v.img with proof := .passed, standby := { raw := [], image := some (imageWith []) } } }

theorem wit_swap : Starts .c 0x1801 0 [] id ∧ (has .c 0x1801 0 []).swapRefusal.isSome = true ∧ Starts .c 0x1801 0 [] proofPassed ∧
    (begun (proofPassed (has .c 0x1801 0 [])) 0 0 (opOf .c 0x1801 0 []) (cleat .c)).swapRefusal = none := by
  unfold Starts Begins Ticks; decide
theorem wit_swap_activation : Ticks swapping ∧ swapping.clk.edge = 0 ∧ swapping.img.swap = some ⟨0, 0⟩ ∧ swapping.swapDue = true ∧
    swapping.img.standby.image.isSome = true ∧ ticking.swapDue = false := by unfold Ticks; decide
theorem wit_swap_holds : Holds swapping 0 := ⟨_, rfl⟩

def keyArgs : List Word := List.replicate 8 1 ++ [0x45535546]
def fusing : State := withV { ticking with
  img := { ticking.img with fusing := [⟨0, 3, List.replicate 32 1⟩] }
  ops := [{ opOf .c 0x1802 3 keyArgs with phase := .running }] }
def fusedOtp : Otp := { slots := Vector.replicate 4 { st := .fused, hash := Vector.replicate 32 1 } }

theorem wit_keys : Starts .c 0x1802 3 keyArgs id ∧ (opOf .c 0x1802 3 keyArgs).arg 8 = 0x45535546 ∧
    State.reset.otp.slots[(opOf .c 0x1802 3 keyArgs).slot].st = .empty ∧ (has .c 0x1802 3 keyArgs).img.fusing = [] ∧
    Starts .c 0x1803 3 (List.replicate 8 0 ++ [0x45535546]) id ∧
    fusedOtp.slots[(opOf .c 0x1803 3 (List.replicate 8 0 ++ [0x45535546])).slot].st = .fused ∧
    (imageWith []).keySlot ≠ 3 := by unfold Starts Begins Ticks; decide

theorem wit_readback : fusing.vx.alive = true ∧ fusing.vx.img.fusing = [⟨0, 3, List.replicate 32 1⟩] ∧ Holds fusing.vx 0 ∧
    fusing.otp.slots[(3 : Fin 4)].st = .empty ∧ allZero (Vector.replicate 32 (1 : Byte)).toList = false ∧
    (Vector.replicate 32 (1 : Byte)).toList = List.replicate 32 1 ∧ (Vector.replicate 32 (3 : Byte)).toList ≠ List.replicate 32 1 :=
  ⟨rfl, rfl, ⟨_, rfl⟩, rfl, by decide, by decide, by decide⟩

theorem wit_keys_stay : ({ State.reset with otp := fusedOtp } : State).otp.slots[(0 : Fin 4)].st ≠ .empty ∧
    step { State.reset with otp := fusedOtp } = .next { State.reset with otp := fusedOtp } := ⟨by decide, rfl⟩

/-! ## The Halyard -/

def halSt (h : HalState) : Vexone := ({ ticking with hal := { ticking.hal with st := h, count := 5 } } : Vexone)
/-- As m's access finds it. -/
def sees (m : Master) (v : Vexone) : Vexone := v.accessed 9 m

theorem wit_halyard : (sees .m2 ticking).hal.st = .free ∧ (sees .m2 ticking).hal.owner = none ∧
    (sees .m1 (halSt (.owned .m0))).hal.owner ≠ none ∧ (sees .m0 (halSt (.owned .m0))).quiescent = true ∧
    (sees .m0 (unfurledSeg (halSt (.owned .m0)))).quiescent = false ∧ (sees .m0 (halSt (.owned .m0))).eg.active = false ∧
    Master.m1 ≠ .m0 ∧ (sees .m0 { halSt (.owned .m0) with eg := { Egress.reset with active := true } }).eg.active = true ∧
    (sees .m1 (halSt (.offered .m0 .m1 64))).hal.st = .offered .m0 .m1 64 ∧
    (sees .m1 (halSt (.offered .m0 .m1 64))).hal.count ≠ 0 ∧
    (sees .m1 ({ ticking with hal := { ticking.hal with st := .offered .m0 .m1 1 } } : Vexone)).hal.count = 0 ∧
    (sees .m2 (halSt (.lapsed .m1))).hal.st = .lapsed .m1 ∧ 7 < (8 : BitVec 8).toNat := by decide

theorem wit_kick : (sees .m0 (ownedBy .m0 ticking)).isOwner .m0 = true ∧ (sees .m0 (ownedBy .m0 ticking)).hal.count = 0 ∧
    (sees .m0 (halSt (.lapsed .m0))).hal.st = .lapsed .m0 ∧ (sees .m0 (halSt (.owned .m0))).isOwner .m0 = true ∧
    (sees .m0 (halSt (.owned .m0))).hal.count ≠ 0 ∧ (sees .m0 ticking).hal.st ≠ .lapsed .m0 ∧
    (sees .m0 ticking).isOwner .m0 = false := by decide

theorem wit_limit :
    let w := sees .m0 (ownedBy .m0 ticking)
    w.isOwner .m0 = true ∧ w.hal.minFor .m0 ≤ fld 27 15 0 ∧ 2 ≤ fld 27 15 0 ∧ fld 26 15 0 < w.hal.minFor .m0 ∧
      (0xC : BitVec 4).extractLsb' 0 2 = 0 ∧ (sees .m1 (ownedBy .m0 ticking)).isOwner .m1 = false ∧
      (sees .m1 (ownedBy .m0 ticking)).hal.st ≠ .free ∧ w.hal.budgetA = { recovMs := 24, replayUs := 40 } := by decide

theorem wit_owner_loss : (ownedBy .m0 ticking).alive = true ∧ (ownedBy .m0 ticking).hal.owner = some .m0 ∧
    (ownedBy .m0 ticking).hal.count = 0 ∧ ticking.hal.owner = none ∧ (halSt (.offered .m0 .m1 0)).hal.st = .offered .m0 .m1 0 ∧
    (halSt (.offered .m0 .m1 63)).hal.st = .offered .m0 .m1 (62 + 1) := by decide

/-- An idle motor that stands. -/
theorem wit_owner_loss_brakes :
    let v := { runs [] with motors := ticking.motors.set 0 { Motor.reset with st := .idle } }
    v.egLane 0 = none ∧ v.motorUndeclared 0 = false ∧ v.motors[0].st = .idle ∧ v.due = [] ∧ v.fast 0 = false := by decide

/-! ## Rings -/

/-- A master's ring enabled in force. -/
def ringEnabled (m : Master) (r : Nat) (v : Vexone) : Vexone := v.setForce (ringAddr m.idx r + 0x0C) 0x80000000
/-- A doorbell value recorded at a CCLK time. -/
def belled (b : BitVec 16) (at_ : Nat) : Vexone :=
  (ringEnabled .m0 0 (runs [act 0x0501 0])).modRing .m0 0 fun x => { x with bell := some b, bellAt := at_ }

theorem wit_doorbell : (sees .m1 (ringEnabled .m1 1 ticking)).ringOn 1 1 = true ∧ (sees .m1 ticking).ringOn 1 1 = false ∧
    (0x4 : BitVec 4).extractLsb' 0 2 = 0 ∧ (0x2 : BitVec 4).extractLsb' 0 2 ≠ 0 := by decide

theorem wit_window : Activity (belled 4 1023) 0 0x0501 (act 0x0501 0) ∧
    (((belled 4 1023).atEdge 1024).ring .m0 0).bell = some 4 ∧
    (((belled 4 1023).atEdge 1024).ring .m0 0).bellAt < (belled 4 1023).clk.t0 + (act 0x0501 0).start ∧
    (belled 4 1024).clk.t0 + (act 0x0501 0).start ≤ (((belled 4 1024).atEdge 1024).ring .m0 0).bellAt := by
  unfold Activity Ticks; decide

def aFetch (n : Nat) : ReadReq :=
  { rid := 5, m := .m0, kind := .descr .m0 .u n (List.replicate n .ownerU) 0, at_ := 0, limit := 0, got := [] }
def fetching : Vexone := { ringEnabled .m0 0 (ownedBy .m0 ticking) with reads := [aFetch 1] }

theorem wit_descriptor :
    let w := fetching.atEdge 9
    fetching.alive = true ∧ w.reads.find? (fun x => x.rid == 5) = some (aFetch 1) ∧ w.staleFetch .m0 .u 0 = false ∧
      w.reads.find? (fun x => x.ofRing .m0 .u 0) = some (aFetch 1) ∧ (w.ring .m0 (sqOf .u)).chain = [] ∧ (aFetch 1).got = [] ∧
      (let v := (fetching.modRing .m0 0 fun x => { x with halted := true }).atEdge 9
       (v.ring .m0 (sqOf .u)).halted = true) := by decide
/-- One word list for each row of 04 Table 4-8, and one that passes. -/
def desc (w0 w1 w2 : Word) : List Word := [w0, w1, w2] ++ List.replicate 13 0
theorem wit_descriptor_rows : descReserved (desc 0x12010000 0x10000000 0) ≠ 0 ∧ 4096 < descBufLen (desc 0x12010000 0x1001 4) ∧
    descBufAddr (desc 0x12010000 0 4) ≠ 0 ∧ descBufAddr (desc 0x12010000 4 2) % 4 ≠ 0 ∧
    opInfo (descOpcode (desc 0xFFFF0000 0 0)) = none ∧ (opInfo 0x1202).map (·.classes.contains .u) = some false ∧
    (opInfo 0x1201).map (·.classes.contains .u) = some true ∧
    isQuery 0x1201 = false ∧ isQuery 0x1B03 = true ∧ descBufLen (desc 0x1B030000 4 4) ≠ 0 ∧ (desc 0 0 0).length = 16 := by decide
theorem wit_decode :
    let d : Decoding := ⟨5, .ownerU, desc 0x12010000 0 0, 41⟩
    let v := (fetching.modRing .m0 0 fun x => { x with chain := [d] }).atEdge 41
    (v.ring .m0 (sqOf .u)).chain = [d] ∧ d.endAt ≤ v.now ∧ v.freePlace.isSome = true ∧ v.isOwner .m0 = true := by decide

def anOp : Op := opOf .c 0x1202 0 [1]
def waiting (left : Nat) : Vexone := { runs [] with
  clk := { (runs []).clk with ticks := 64 }
  ops := [{ anOp with bufLeft := left }]
  reads := [{ rid := 9, m := .m0, kind := .buffer 0 0 0 4, at_ := 0, limit := 0, got := [] }] }
theorem wit_reads : ((fetching.atEdge 9).staleFetch .m0 .u 0 = false) ∧
    (((waiting 1).atEdge 9).reads.find? (fun x => x.rid == 9)).map (·.kind) = some (.buffer 0 0 0 4) ∧
    ((waiting 1).atEdge 9).bufferOp 0 0 = some { anOp with bufLeft := 1 } ∧ 4 ≤ [(1 : Byte), 2, 3, 4].length ∧
    [(1 : Byte), 2, 3].length < 4 := by decide
theorem wit_waits : (waiting 0).opAt 0 = some anOp ∧ anOp.phase = .admitted ∧ anOp.bufLeft = 0 ∧
    (waiting 0).fenceClear anOp (waiting 0).clk.t0 = true ∧ 0 + 64 ≤ (waiting 0).clk.ticks ∧
    (let o := opOf .p 0x1101 5 [2]
     let v := { waiting 0 with ops := [o] }
     v.opAt 0 = some o ∧ o.cls = .p ∧ v.boundOp o = false ∧ o.hadCtx = false ∧ v.residentOp o = false ∧
       v.fenceClear o v.clk.t0 = true) := by decide

/-! ## Checks and queries -/

theorem wit_first_checks : (0x1202, Instr.unfurl) ∈ operations ∧ (opInfo 0x1202).any (·.image) = true ∧
    (opInfo 0x1201).any (·.image) = false ∧ (opOf .c 0x1204 4 [1]).reservedBad = true ∧ (opOf .c 0x1204 3 [1]).reservedBad = false ∧
    Begins (has .c 0x1204 4 [1]) 0 0 (opOf .c 0x1204 4 [1]) (cleat .c) ∧
    ({ Sched.reset with used := [7] } : Sched).used.contains 7 = true :=
  ⟨by simp [operations], by decide, by decide, by decide, by decide, by unfold Begins Ticks; decide, by decide⟩

/-- The same under the harbour schedule, whose third entry is a C cleat (02 R64). -/
theorem wit_no_image :
    let o := opOf .c 0x1202 0 [1]
    let v : Vexone := { ticking with ops := [o] }
    Begins v 0 2 o ⟨0x3F, 1, 576, 1, 0, 1024, 0, 0, 0x80000000⟩ ∧ v.active = none := by
  refine ⟨?_, rfl⟩
  unfold Begins Ticks; decide

/-- A query with a buffer of 4 bytes. -/
def query (opcode target : Nat) (args : List Word) : Op :=
  { opOf .c opcode target [] with
    words := [BitVec.ofNat 32 (opcode * 65536), BitVec.ofNat 32 (target * 65536 + 24), 4096, 0] ++ args }
def asks (o : Op) (f : Vexone → Vexone) : Prop :=
  Begins (f { runs [cleat .c] with ops := [o] }) 0 0 o (cleat .c) ∧ o.reservedBad = false

/-- A handle tracked, with a context in slot 3. -/
def aCtx (h : BitVec 12) : Ctx := ticking.newCtx h { loc := 1, pocket := 0, known := none }
def tracked (h : BitVec 12) (res : Bool) (v : Vexone) : Vexone := v.modH h fun e =>
  if res then { e with tracked := true, slot := some 3, ctx := some (aCtx h) } else { e with tracked := true }

theorem wit_queries : (0x1B01, Instr.qState, Vexone.stateRecord) ∈ kindQueries ∧ asks (query 0x1B01 15 [0x00180000, 1]) id ∧
    (query 0x1B01 15 [0x00180000, 1]).queryBad = false ∧ (ticking.stateRecord 1 15).isSome = true ∧ ticking.stateRecord 1 16 = none ∧
    (query 0x1B01 15 [0x00190000, 1]).queryBad = true ∧ asks (query 0x1B03 0 [0x00180000]) id ∧
    (query 0x1B03 0 [0x00180000]).queryBad = false ∧ asks (query 0x1B04 5 [0x00180000]) id ∧
    (ticking.cx.get 5).tracked = false ∧ asks (query 0x1B04 5 [0x00180000]) (tracked 5 false) ∧
    ((tracked 5 false ticking).cx.get 5).resident = false ∧ ((tracked 5 false ticking).cx.get 5).tracked = true ∧
    asks (query 0x1B05 5 [0x00180000]) (tracked 5 true) ∧ ((tracked 5 true ticking).cx.get 5).resident = true ∧
    (tracked 5 true ticking).ctxOf 5 = some (aCtx 5) :=
  ⟨by simp [kindQueries], by unfold asks Begins Ticks; decide, by decide, by decide, by decide, by decide,
    by unfold asks Begins Ticks; decide, by decide, by unfold asks Begins Ticks; decide, by decide,
    by unfold asks Begins Ticks; decide, by decide, by decide, by unfold asks Begins Ticks; decide, by decide, by decide⟩

theorem wit_query_handles :
    let o := query 0x1B05 5 [0x00180000]
    let b := fun (f : Vexone → Vexone) => begun (f { runs [cleat .c] with ops := [o] }) 0 0 o (cleat .c)
    (b id).untracked o = true ∧ (b (tracked 5 false)).untracked o = false ∧ ((b (tracked 5 false)).cx.get o.handle).resident = false ∧
      (b (tracked 5 true)).untracked o = false ∧ ((b (tracked 5 true)).cx.get o.handle).resident = true := by decide
theorem wit_query_snap :
    let o := { query 0x1B05 5 [0x00180000] with phase := .running }
    let v := tracked 5 true { runs [cleat .c] with ops := [o] }
    v.opAt 0 = some o ∧ o.isComplete = false ∧ v.entry 0 = some (cleat .c) ∧ v.ctxOf o.handle = some (aCtx 5) := by decide

/-! ## The context store -/

def spoiled (v : Vexone) : Vexone := v.modCx fun x => { x with spoil := some (0x10000, .m1) }
def wanting : Vexone := (spoiled (tracked 5 false (runs [act 0x0601 0]))).modCx fun x => { x with demand := [(5, false)] }

theorem wit_context_window :
    let w := wanting.atEdge (act 0x0601 0).start
    Activity wanting 0 0x0601 (act 0x0601 0) ∧ w.later = [] ∧ (act 0x0601 0).param = 1 ∧
      w.cx.halted = false ∧ w.cx.spoil = some (0x10000, .m1) ∧ w.sch.run ≠ .egress ∧ w.cx.reserve = [] ∧
      w.cx.demand = [(5, false)] ∧ (w.cx.get 5).tracked = true ∧ (w.cx.get 5).ctx = none ∧
      (w.cx.get 5).busy = false ∧ (w.cx.get 5).slot = none ∧ 0 < w.cx.free ∧ w.cx.freeSlot.isSome = true ∧
      ((runs [act 0x0601 0]).atEdge 1024).cx.spoil = none := by unfold Activity Ticks; decide

def filling : Vexone := { tracked 5 false ticking with
  reads := [{ rid := 9, m := .m1, kind := .fill 5 none, at_ := 100, limit := 50, got := [] }] }
/-- A record of handle 5 with GEN 0 and its CRC. -/
def goodRecord : List Byte :=
  let b := le 2 5 ++ List.replicate 124 0
  b ++ le 2 (crc16 b)
theorem wit_fill :
    let w := filling.atEdge 9
    filling.alive = true ∧ (w.reads.find? fun x => x.rid == 9).map (·.kind) = some (.fill 5 none) ∧
    goodRecord.length = 128 ∧ leAt goodRecord 0x7E 2 = crc16 (goodRecord.take 0x7E) ∧ leAt goodRecord 0 2 = (5 : BitVec 12).toNat ∧
    leAt goodRecord 2 2 = (w.cx.get 5).gen.toNat ∧ (w.cx.get 5).tracked = true ∧
    leAt (List.replicate 128 (0 : Byte)) 0 2 ≠ (5 : BitVec 12).toNat ∧
    100 + 50 ≤ (filling.atEdge 150).now ∧ (filling.atEdge 149).now < 100 + 50 := by decide +kernel

theorem wit_context_settings : Starts .b 0x1703 5 [] (tracked 5 true) ∧ (tracked 5 true ticking).cx.pins < 256 ∧
    Starts .b 0x1704 5 [] (tracked 5 false) ∧ Starts .b 0x1706 5 [1, 2, 3, 4, 7] (tracked 5 true) ∧
    Starts .b 0x1707 5 [] (tracked 5 true) ∧ (tracked 5 true (has .b 0x1707 5 [])).protected ((tracked 5 true ticking).cx.get 5) = false ∧
    Starts .c 0x1708 0 [0xFFFF0000, 1] id ∧ ticking.cx.spoilHeld = 0 ∧ (opOf .c 0x1708 0 [0xFFFF0000, 1]).a 0 15 0 = 0 ∧
    Starts .c 0x1705 5 [0xFF03] (tracked 5 true) ∧ (has .c 0x1705 5 [0xFF03]).laneDeclared 3 = true := by
  unfold Starts Begins Ticks; decide

theorem wit_fill_spill : Starts .b 0x1701 5 [] (fun v => spoiled (tracked 5 true v)) ∧
    ((spoiled (tracked 5 true ticking)).cx.get 5).slot = some 3 ∧ Starts .b 0x1701 5 [] (fun v => spoiled (tracked 5 false v)) ∧
    (spoiled (tracked 5 false ticking)).cx.freeSlot = some 0 ∧ 0 < (spoiled (tracked 5 false ticking)).cx.free ∧
    Starts .b 0x1702 5 [] (fun v => spoiled (tracked 5 true v)) ∧
    (let f := fun (v : Vexone) => (spoiled (tracked 5 true v)).modH 5 fun e => { e with pin := true }
     Starts .b 0x1702 5 [] f ∧ (f ticking).protected ((f ticking).cx.get 5) = true) := by
  unfold Starts Begins Ticks; decide

/-- A store with no slot free: 384 other handles hold one, none of them a clean candidate. -/
def full (v : Vexone) : Vexone := spoiled ({ v with cx := { v.cx with
  tab := { v.cx.get 5 with tracked := true } ::
    (List.range 384).map fun k => { v.cx.get 0 with handle := BitVec.ofNat 12 (k + 100), tracked := true, slot := some k } } })
theorem wit_fill_full :
    let b := begun (full (has .b 0x1701 5 [])) 0 0 (opOf .b 0x1701 5 []) (cleat .b)
    Starts .b 0x1701 5 [] full ∧ b.cx.spoil = some (0x10000, .m1) ∧ (b.cx.get 5).tracked = true ∧ b.eg.active = false ∧
      (b.cx.get 5).resident = false ∧ (b.cx.get 5).busy = false ∧ (b.cx.get 5).slot = none ∧ b.cx.free = 0 ∧
      b.cleanCandidate = none := by
  unfold Starts Begins Ticks; decide +kernel

/-! ## The field engine -/

/-- Locked, on the reference, with the field rail on. -/
def fieldOn (v : Vexone) : Vexone := { v with fb := { v.fb with st := .on } }
def egressing (v : Vexone) : Vexone := { v with eg := { v.eg with active := true } }

theorem wit_unfurl : Starts .u 0x1201 0 [1] carrying ∧ (carrying ticking).unfurlPending &&& 1 = 0 ∧
    Starts .c 0x1202 0 [1] id ∧ (1 : BitVec 16) &&& ~~~(runs []).declSegs = 0 ∧ Starts .c 0x1202 0 [1] egressing ∧
    Starts .c 0x1202 0 [1] onBackup ∧ Starts .c 0x1202 0 [1] (fun v => v.latchRaw 0x0601 1) ∧
    firstSome ((segsOf 1).map fun k => ((runs []).latchRaw 0x0601 1).segHeld k.val) = some 0x0601 ∧
    (runs []).onBackup = false ∧ (runs []).fr.role ≠ 2 ∧ (runs []).fb.switching = false := by
  unfold Starts Begins Ticks; decide
theorem wit_field_operations : Starts .c 0x1202 0 [1] fieldOn ∧ (fieldOn ticking).fb.switching = true ∧
    Starts .c 0x1203 0 [1] carrying ∧ Starts .c 0x1204 3 [1] id ∧ (runs []).laneDeclared 3 = true ∧
    Starts .c 0x1207 15 [24 * 256] id ∧ (runs []).declSegs.getLsbD 15 = true ∧ (runs []).segs[15].live = false ∧
    Starts .c 0x1205 3 [1400 * 65536 + 32, 3] id ∧ Starts .c 0x1206 15 [65536 + 256, 3] id := by
  unfold Starts Begins Ticks; decide

def actsOn (code : Nat) (f : Vexone → Vexone) : Vexone := f (runs [act code 0x8001])
theorem wit_field_activities : Activity (actsOn 0x0101 carrying) 0 0x0101 (act 0x0101 0x8001) ∧
    Activity (actsOn 0x0102 carrying) 0 0x0102 (act 0x0102 0x8001) ∧ (act 0x0102 0x8001).segs.getLsbD 15 = true ∧
    (let w := (actsOn 0x0102 carrying).atEdge 1024
     w.listening 0 = false ∧ w.segs[0].phase = .carrying ∧ w.segs[0].waitBst = false ∧ w.segs[0].skipped = false ∧
       w.segs[0].guarded = false ∧ w.segs[15].live = false) ∧
    Activity (actsOn 0x0103 carrying) 0 0x0103 (act 0x0103 0x8001) ∧
    (let w := (actsOn 0x0103 carrying).atEdge 1024
     w.segs[0].runs = true ∧ w.segs[0].stopping = false ∧ w.segs[15].phase ≠ .carrying ∧ w.segs[15].phase ≠ .faultOff) ∧
    Activity (actsOn 0x0104 id) 0 0x0104 (act 0x0104 0x8001) ∧
    ((actsOn 0x0104 id).atEdge 1024).segs[0].phase = .furled ∧ ((actsOn 0x0104 id).atEdge 1024).segLatched 0 = none := by
  unfold Activity Ticks; decide

/-- The open load of a segment that has carried 10 periods is judged; so is one whose furl is under way. -/
theorem wit_segment_protections :
    let w := (carrying ticking).atEdge 200
    let u := (changes .furl ticking).atEdge 200
    (carrying ticking).alive = true ∧ w.openJudged w.segs[0] = true ∧ w.segs[0].act = none ∧
      ((carrying ticking).atEdge 9).openJudged ((carrying ticking).atEdge 9).segs[0] = false ∧
      u.openJudged u.segs[0] = true ∧ u.segs[0].act = some (64, .furl) ∧ w.segs[0].phase = .carrying ∧
      (let x := ((dark ticking).modSeg 0 fun x => { x with waitTo := 150 }).atEdge 150
       x.segs[0].phase = .dark ∧ x.segs[0].waitBst = true ∧ x.segs[0].waitTo ≤ x.now) ∧
      (let x := ((dark ticking).modSeg 0 fun x => { x with waitTo := 151, holdTo := 151 }).atEdge 150
       x.now < x.segs[0].waitTo ∧ x.segs[0].waitBst = true ∧ x.clk.edge < x.segs[0].holdTo) ∧
      (let x := (ticking.modSeg 0 fun x => { x with phase := .faultOff, shortAt := some 9 }).atEdge 9
       x.segs[0].phase = .faultOff ∧ x.segs[0].shortAt = some x.now ∧ x.openJudged x.segs[0] = false) := by decide

/-! ## Sessions -/

/-- A binding of handle 5 to the first P cleat. -/
def bound : Binding :=
  { first := 0, second := 1, lane := 0, tracks := 1, handle := 5, vec := Vector.replicate 4 0, grant := 0, lost := false, served := 0,
    cur := 0, frag := false, cells := 0, answered := false, asked := false, coupled := 0, lit := 0, cand := (0, 0), judged := false,
    op := some 0 }
def pCleat : Entry := ⟨0x3F, 1, 1024, 2, 1, 1024, 0, 0, 3⟩
def pOp (opcode bufLen : Nat) (args : List Word) : Op :=
  { opOf .p opcode 0 args with words := [BitVec.ofNat 32 (opcode * 65536), BitVec.ofNat 32 (5 * 65536 + bufLen), 4096, 0] ++ args }
def serves (f : Ctx → Ctx) (ops : List Op) (v : Vexone) : Vexone :=
  ({ tracked 5 true v with ops := ops, sch := { v.sch with bind := [bound] } }).modH 5 fun x => { x with ctx := x.ctx.map f }
def session (f : Ctx → Ctx) (o : Op) : Vexone := serves f [o] (runs [pCleat])
def ctxIn (st : Nat) (c : Ctx) : Ctx := { c with isoState := st }

/-- A session operation of handle 5 begins with the pass in an ISO state. -/
def Opens (o : Op) (st : Nat) : Prop :=
  BeginsSession (session (ctxIn st) o) 0 0 o pCleat bound (ctxIn st (aCtx 5)) ∧ o.reservedBad = false ∧
    (begunSession (session (ctxIn st) o) 0 o pCleat).active.isSome = true ∧
    (begunSession (session (ctxIn st) o) 0 o pCleat).laneBusy 5 = false

theorem wit_activate : Opens (pOp 0x1101 64 [2]) 3 := by unfold Opens BeginsSession Ticks; decide
theorem wit_apdu : Opens (pOp 0x1102 1 [1]) 2 := by unfold Opens BeginsSession Ticks; decide
theorem wit_deselect : Opens (pOp 0x1103 0 []) 2 := by unfold Opens BeginsSession Ticks; decide
theorem wit_session_limits : Starts .c 0x1104 3 [415, 4] id ∧ Starts .c 0x1104 3 [414, 4] id ∧ 83 * (4 + 1) = 415 := by
  unfold Starts Begins Ticks; decide

/-- A session of handle 5 at place 0. -/
def aSession (ph : SessPhase) (listening : Bool) : Session :=
  { place := 0, tag := 0, handle := 5, lane := 0, tracks := 1, phase := ph, attempts := 2, bindTick := 0, timeout := 500, retries := 2,
    cmdLen := 4, listening := listening, listenTo := 500, toSend := false, nak := false, wtx := false, wtxm := 0,
    chunk := 0, silent := true, vec := Vector.replicate 4 0, known := [], block := false, maxRate := 0, uid := [], cl := [], sak := 0,
    ats := [], rx := [], expTick := 0 }
def inSession (ph : SessPhase) (listening : Bool) (ticks : Nat) : Vexone :=
  let v := serves (ctxIn 2) [{ pOp 0x1102 1 [1] with phase := .running }] (actsOn 0x0102 carrying)
  { v with sess := [aSession ph listening], clk := { v.clk with ticks := ticks } }
def hears (v : Vexone) : Option Session := v.sess.find? fun y => y.listening && y.tracks.getLsbD 0

theorem wit_answers : (inSession .deselect true 500).alive = true ∧ hears ((actsOn 0x0102 carrying).atEdge 1024) = none ∧
    ((actsOn 0x0102 carrying).atEdge 1024).inIsoSlot 0 1024 = true ∧
    hears ((inSession .deselect true 500).atEdge 9) = some (aSession .deselect true) ∧
    ((inSession .deselect true 500).atEdge 9).ctxOf 5 = some (ctxIn 2 (aCtx 5)) ∧ Holds ((inSession .deselect true 500).atEdge 9) 0 ∧
    hears ((inSession .over true 500).atEdge 9) = some (aSession .over true) :=
  ⟨by decide, by decide, by decide, by decide, by decide, ⟨_, rfl⟩, by decide⟩
theorem wit_session_ends :
    hears ((inSession .request true 0).atEdge 500) = some (aSession .request true) ∧
    (aSession .request true).listenTo ≤ ((inSession .request true 0).atEdge 500).now ∧
    ((inSession .request true 0).atEdge 499).now < (aSession .request true).listenTo ∧ (aSession .request true).silent = true ∧
    (inSession .request true 500).sessOf 0 = some (aSession .request true) ∧ 0 + 500 ≤ (inSession .request true 500).clk.ticks ∧
    (inSession .request true 499).clk.ticks < 0 + 500 ∧ Holds (inSession .request true 500) 0 ∧
    (inSession .request true 500).ctxOf 5 = some (ctxIn 2 (aCtx 5)) :=
  ⟨by decide, by decide, by decide, rfl, by decide, by decide, by decide, ⟨_, rfl⟩, by decide⟩
theorem wit_collision :
    let v := inSession (.anticoll 0) false 0
    v.sessOf 0 = some (aSession (.anticoll 0) false) ∧ v.openWindow 5 = none ∧
      ([] ++ List.replicate 30 false ++ [true]).length < 32 ∧ 32 ≤ ([] ++ List.replicate 31 false ++ [true]).length := by decide

theorem wit_bound_waits : { waiting 0 with sch := { (waiting 0).sch with bind := [bound] } }.boundOp (pOp 0x1101 64 [2]) = true := by
  decide

theorem wit_p_cleat :
    let w := (runs [pCleat]).atEdge 1024
    Ticks (runs [pCleat]) ∧ (runs [pCleat]).entry 0 = some pCleat ∧ pCleat.kind = 1 ∧ pCleat.cls = 2 ∧
      (runs [pCleat]).sch.used.contains 0 = false ∧ w.isRack = false ∧ segsOf pCleat.segs = [0, 1] ∧ w.sess = [] ∧
      w.sch.bind.find? (fun b => (b.first == 0 || b.second == 0) && !b.lost) = none ∧
      (let u := (serves id [] (carrying (runs [pCleat]))).atEdge 1024
       u.sch.bind.find? (fun b => (b.first == 0 || b.second == 0) && !b.lost) = some bound ∧
       u.ctxOf 5 = some (aCtx 5) ∧ u.unfurled &&& pCleat.segs ≠ 0 ∧ u.isRack = false) := by
  unfold Ticks; decide

/-! ## The energy loop -/

/-- Handle 5 in the energy loop, its context and record changed. -/
def loops (f : Ctx → Ctx) (g : LoopRec → LoopRec) (v : Vexone) : Vexone :=
  let v := serves f [] v
  { v with cx := { v.cx with loops := [g (LoopRec.start 5 (Vector.replicate 4 0))] } }
def tagIs (on : Bool) (c : Ctx) : Ctx := { c with tagged := on }
def offers (l : LoopRec) : LoopRec := { l with offer := some 3 }
/-- A report or hello string with its CRC-8 right. -/
def string64 (hi : Nat) : BitVec 64 := BitVec.ofNat 64 (hi * 256 + crc8 (natBits 56 hi))
/-- The hello of PASS_ID 7: TYPE in bit 8 of the string. -/
def helloBits : BitVec 64 := string64 (7 * 2 ^ 24 + 1)

theorem wit_hello : ((loops (tagIs false) offers ticking).ctxOf 5).isSome = true ∧
    ((loops (tagIs false) offers ticking).loopOf 5).map (·.offer) = some (some 3) ∧ repGood helloBits = true ∧
    repFld helloBits 8 8 = 1 ∧ helloId helloBits = 7 ∧ ticking.isRack = false ∧ repGood (helloBits + 1) = false := by
  decide +kernel

/-- An image of a rack. -/
def aRack (v : Vexone) : Vexone :=
  { v with img := { v.img with active := { raw := [], image := some { imageWith [pCleat] with decl := { allDecl with deploy := 2 } } } } }
theorem wit_hello_of_another :
    let v := loops (fun c => { tagIs false c with passId := 9 }) offers (aRack (runs [pCleat]))
    v.alive = true ∧ v.isRack = true ∧ ((v.ctxOf 5).map (·.passId)) = some 9 ∧ (v.loopOf 5).map (·.offer) = some (some 3) ∧
      9 ≠ helloId helloBits := by decide +kernel

theorem wit_reports :
    let v := loops (tagIs true) (fun l => { l with noRep := 64, keeps := 3 }) ticking
    let w := loops (tagIs true) (fun l => { l with noRep := 64, keeps := 4 }) ticking
    (v.ctxOf 5).map (·.tagged) = some true ∧ (v.loopOf 5).map (fun l => (l.noRep, l.keeps)) = some (64, 3) ∧
      (w.loopOf 5).map (fun l => (l.noRep, l.keeps)) = some (64, 4) ∧ repGood (string64 0) = true ∧ repFld (string64 0) 8 8 = 0 ∧
      repFld (string64 0) 11 9 = v.bankId ∧ repFld (string64 2) 11 9 ≠ v.bankId ∧ repGood (string64 2) = true ∧
      repFld (string64 0x20) 13 13 = 1 ∧ repFld (string64 0x20) 11 9 = v.bankId ∧ repGood (string64 0 + 1) = false ∧
      repFld (string64 0 + 1) 8 8 = 0 := by decide +kernel

theorem wit_beacons :
    let dir : OutDir := 
      { bits := [], seq := 0, op := 0x3F, arg := 0, auth := false, sentA := 0, sentB := 0, endA := 0, endB := 0, lapsed := false }
    let v := loops (tagIs false) (fun l => { offers l with beacons := 16, dir := some dir }) ticking
    (v.loopOf 5).map (fun l => (l.offer.isSome, l.beacons, l.dir.any (fun d => d.endedBy (v.atEdge 9).now))) = some (true, 16, true) := by decide

theorem wit_energy_cap : Starts .b 0x1105 5 [65535] (tracked 5 true) ∧ ((tracked 5 true ticking).cx.get 5).resident = true := by
  unfold Starts Begins Ticks; decide

/-! ## The pass -/

/-- A pass in a field. -/
def inField : Lalvo := { Lalvo.reset with mode := .active }
def withPass (l : Lalvo) : State := { State.reset with lav := l }
def holding (f : LavLink → LavLink) : Lalvo := { inField with link := f { LavLink.reset with hasHandle := true, handle := 5 } }

/-- A directive of handle 5, bank 0, SEQ 1. -/
def word (op arg : Nat) : Nat := 5 * 2 ^ 28 + 2 ^ 21 + op * 2 ^ 15 + arg * 2

theorem wit_directives : ∀ op ∈ [1, 2, 3, 4, 5, 6, 7, 8, 9, 10, 63],
    (holding fun k => { k with judged := [directiveOf 3 (word op 1)] }).link.judged = [directiveOf 3 (word op 1)] ∧
      (directiveOf 3 (word op 1)).op.toNat = op ∧ (directiveOf 3 (word 1 1)).op.toNat ≠ 2 := by decide

theorem wit_commits :
    let l := holding fun k => { k with stIchg := some 511, stVchg := some 4000, stPg := some (20, 10), remote := true }
    (directiveOf 3 (word 7 1)).a 2 0 = 1 ∧ l.link.stIchg = some 511 ∧ (directiveOf 3 (word 7 2)).a 2 0 = 2 ∧
      l.link.stVchg = some 4000 ∧ min 4000 l.vchgMax ≠ l.set.vchg ∧ ({ l with chg := .cc } : Lalvo).chg = .cc ∧
      (directiveOf 3 (word 7 4)).a 2 0 = 4 ∧
      pgValid 20 10 l.set.vhold l.vchgWord = true ∧ pgValid 20 15 l.set.vhold l.vchgWord = false ∧
      l.link.beaconOf = none ∧ inField.link.hasHandle = false := by decide

theorem wit_remote_timeout :
    let l := { holding (fun k => { k with remote := true, remoteAt := 0 }) with us := 256000 }
    l.mode = .active ∧ l.link.remote = true ∧ l.past l.link.remoteAt 256000 = true ∧
      ({ l with us := 255750 } : Lalvo).past l.link.remoteAt 256000 = false := by decide

theorem wit_copies :
    let l := holding id
    let w := word 9 0
    let c := crc8 (natBits 40 w)
    let d := directiveOf 3 w
    l.mode = .active ∧ l.link.held = [] ∧ w < 2 ^ 40 ∧ c < 256 ∧ d.auth = false ∧ l.meant d = true ∧ l.link.anySeq = false ∧
      l.needsMac d = false ∧ d.op ≠ 0x3F ∧ (l.link.stream (!true) 3).lost = false ∧
      ((l.link.setStream { copyB := false, tag := 3, bits := none, lost := true, since := 0 }).stream (!true) 3).lost = true ∧
      (c + 1) % 256 ≠ c ∧ Lalvo.reset.mode ≠ .active := by decide +kernel

/-- ASSIGN needs no MAC at a pass without one; a pass that holds a key and a fused LIMITS wants one for a commit. -/
theorem wit_copy_kinds : (directiveOf 3 (word 0x3F 0)).op = 0x3F ∧ inField.meant (directiveOf 3 (word 0x3F 0)) = true ∧
    inField.needsMac (directiveOf 3 (word 0x3F 0)) = false ∧ (directiveOf 3 (word 0x3F 0)).auth = false ∧
    (∃ l : Lalvo, ∃ op, l.mode = .active ∧ l.link.held = [] ∧ l.meant (directiveOf 3 (word op 1)) = true ∧
      l.needsMac (directiveOf 3 (word op 1)) = true ∧ (directiveOf 3 (word op 1)).auth = false) :=
  ⟨by decide, by decide, by decide, by decide,
    { holding id with nvm := { inField.nvm with limits := true, issued := true } }, 5, by decide +kernel⟩

theorem wit_copy_timeouts :
    let k := LavLink.reset.setStream { copyB := false, tag := 3, bits := some [true], lost := false, since := 0 }
    (k.stream false 3).bits.isSome = true ∧ ({ inField with link := k, us := 16000 } : Lalvo).past (k.stream false 3).since 16000 = true ∧
      ({ inField with link := k, us := 15750 } : Lalvo).past (k.stream false 3).since 16000 = false ∧
      (let h : Held := ⟨directiveOf 3 (word 9 0), false, 0⟩
       let l := { (holding fun k => { k with held := [h], anySeq := true, hasBank := true }) with us := 16000 }
       l.link.held = [h] ∧ l.link.lastSeq ≠ h.d.seq ∧ l.link.bank = h.d.bank ∧ l.past h.since 16000 = true ∧
         ({ l with us := 15750 } : Lalvo).past h.since 16000 = false) := by decide

/-- A pass out of a field in one of its modes; and a cold start at a VRECT. -/
def out (m : LavMode) : Lalvo := { Lalvo.reset with mode := m, disSw := true, loadSw := m == .supervise }
def cold (vrect vsys : Nat) (lost : Option Nat) : ColdRun :=
  { vrect := vrect, away := 2000, lost := lost, us := 800, vcs := 3500, vsys := vsys, fuses := true }

theorem wit_cold_start : Lalvo.reset.mode = .dead ∧ 55 ≤ (cold 55 2100 none).vrect ∧ (cold 55 2100 none).lost = none ∧
    2100 ≤ (cold 55 2100 none).vsys ∧ (cold 55 2099 none).vsys < 2100 ∧ (cold 55 2100 (some 2)).lost = some 2 ∧
    ({ Lalvo.reset with mode := .cold, coldStep := 3 } : Lalvo).mode = .cold ∧ (cold 54 2100 none).vrect < 55 := by decide

theorem wit_pass_modes : inField.mode = .active ∧ 256 ≤ 256 ∧ inField.noCarrier ≠ 1 ∧ inField.disSw = false ∧
    ({ inField with disSw := true } : Lalvo).set.vhold ≤ 3000 ∧ 2999 < inField.set.vhold ∧ inField.supArm = false ∧ inField.pg = false ∧
    inField.nap = false ∧ ({ inField with supArm := true, disSw := true } : Lalvo).supArm = true ∧ (out .shelf).mode = .shelf ∧
    ({ out .shelf with noCarrier := 1 } : Lalvo).noCarrier = 1 ∧ (out .shelf).nvBusy = false ∧ 0 < (out .shelf).vcutMv ∧
    inField.vcutMv - 1 < inField.vcutMv ∧ (out .supervise).supArm = false ∧
    ({ out .supervise with us := 10000000 } : Lalvo).past 0 (1000000 * (out .supervise).set.supTime) = true ∧
    ({ out .supervise with us := 9936000 } : Lalvo).past 0 (1000000 * (out .supervise).set.supTime) = false ∧
    ({ out .supervise with supArm := true } : Lalvo).supArm = true ∧ (out .supervise).loadSw = true ∧ (out .hold).mode = .hold := by
  decide

/-- A pass whose cell holds 1 mAh. -/
def celled (l : Lalvo) : Lalvo := { l with nvm := { l.nvm with words := l.nvm.words.set 3 10000 } }

theorem wit_gauge :
    let l : Lalvo := { celled (out .shelf) with qg := 100 }
    l.mode = .shelf ∧ l.cap ≠ 0 ∧ 26700 ≤ l.charge ∧ l.charge ≤ l.cap * 1000000 ∧ ({ l with mode := .hold } : Lalvo).mode = .hold ∧
      16000 ≤ l.charge := by decide

theorem wit_rest :
    let l : Lalvo := { celled inField with us := 10000000, icell := 19 }
    l.powered = true ∧ l.icell.natAbs < 20 ∧ l.rested = false ∧ l.past l.restAt 10000000 = true ∧ l.cap ≠ 0 ∧
      20 ≤ ({ l with icell := -20 } : Lalvo).icell.natAbs ∧ ({ l with us := 9999750 } : Lalvo).past l.restAt 10000000 = false := by
  decide

theorem wit_gauge_compare :
    let cell := celled (out .shelf)
    let l := { cell with qg := cell.cap, vcs := 3000 }
    let m := { cell with qg := 0, vcs := 3000 }
    l.powered = true ∧ 15 * l.cap * 1000000 < 100 * (l.charge - l.voltCharge).natAbs ∧
      100 * (m.charge - m.voltCharge).natAbs ≤ 10 * m.cap * 1000000 := by decide +kernel

def aSample (vcs vsys : Nat) : LavSample := { vcs := vcs, vrect := 400, icell := 0, vload := 0, vsys := vsys, charge := 0, pin := 0 }
theorem wit_cell_protection :
    let l : Lalvo := { inField with pol := 1, chgSw := true, prot := { LavProt.reset with ovRun := 2 } }
    (aSample 3500 1499).vsys < 1500 ∧ 1500 ≤ (aSample (l.ovMv + 1) 1500).vsys ∧ l.prot.ov = false ∧ l.ovMv < (aSample (l.ovMv + 1) 1500).vcs ∧
      2 ≤ l.prot.ovRun ∧ 150 ≤ l.ovMv ∧ ({ l with prot := { l.prot with ov := true } } : Lalvo).prot.ov = true ∧ l.charging = true ∧
      l.chg = .trickle ∧ 2000 ≤ l.ovMv ∧ l.vcs < 1000 ∧ l.imp = none := by decide

theorem wit_charge_times :
    let l : Lalvo := { inField with pol := 1, chgSw := true, trickleUs := 9999751, preUs := 299999751, cvUs := 999751, us := 250 }
    l.charging = true ∧ l.chg = .trickle ∧ l.vcs < 1000 ∧ l.counted l.trickleUs 10000000 = true ∧
      ({ l with chg := .precharge } : Lalvo).charging = true ∧ l.counted l.preUs 300000000 = true ∧
      ({ l with chg := .cv } : Lalvo).charging = true ∧ ({ l with chg := .cv } : Lalvo).icell < (50 * l.tenth : Nat) ∧
      l.counted l.cvUs 1000000 = true ∧ l.counted 0 1000000 = false ∧ ({ l with pol := 0 } : Lalvo).charging = false := by decide

theorem wit_over_currents :
    let l := celled { inField with loadSw := true, us := 256000 }
    let open_ := { l with prot := { l.prot with docOpen := true } }
    l.prot.ocPause = false ∧ l.prot.ocStop = false ∧ (l.ocLimit : Int) < l.ocLimit + 1 ∧ l.past l.prot.ocAt 64000 = true ∧
      ({ l with us := 63750 } : Lalvo).past l.prot.ocAt 64000 = false ∧ l.loadSw = true ∧ l.docUa < l.docUa + 1 ∧
      open_.prot.docOpen = true ∧ open_.prot.docStop = false ∧ open_.past open_.prot.docAt 256000 = true ∧
      ({ open_ with us := 255750 } : Lalvo).past open_.prot.docAt 256000 = false ∧ 2 * 0 < l.vloadMv ∧ l.prot.docWas = none ∧
      ({ l with prot := { l.prot with docWas := some (3, 7) } } : Lalvo).prot.docWas = some (3, 7) ∧
      (l.vloadMv ≤ 2 * l.vloadMv) ∧ -41 < l.chgWin.1 ∧ l.chgWin.1 ≤ l.chgWin.2 ∧ l.powered = true := by decide

theorem wit_tracker : inField.tracks = true ∧ ({ inField with link := { inField.link with remote := true } } : Lalvo).tracks = false ∧
    inField.trk.low < 15 ∧ inField.trk.vtgtPhase = false := by decide

/-- The load on, as the I2C of a pass wants. -/
def loaded (f : Lalvo → Lalvo) : Lalvo := f (celled { inField with loadSw := true, vsys := 3300 })

theorem wit_registers : inField.loadSw = false ∧ (loaded id).loadSw = true ∧ (loaded id).nvm.issued = false ∧ (loaded id).cap ≠ 0 ∧
    (0 : BitVec 16).toNat + 2 ^ 16 * (loaded id).qgHi.toNat ≤ (loaded id).cap ∧
    (loaded fun l => { l with nvm := { l.nvm with issued := true } }).nvm.issued = true ∧ (loaded id).nvBusy = false ∧
    ¬ (let k := (loaded fun l => { l with nvAddr := 6, nvData := 20 }).nvAddr.toNat
       k = 0 ∨ (56 ≤ k ∧ k ≤ 61) ∨ k = 63 ∨ (48 ≤ k ∧ k ≤ 55 ∧ (loaded id).nvm.limits = true) ∨ (loaded id).nvm.issued = true) ∧
    ({ loaded id with vsys := 3299 } : Lalvo).vsys < 3300 ∧ nvRangeBad 6 20 = false ∧ nvRangeBad 9 13 = true ∧
    (loaded id).asWritten.relations = true := by decide
theorem wit_fuses :
    (loaded fun l => { l with nvData := 0x4C4D }).nvData = 0x4C4D ∧ (loaded fun l => { l with nvData := 0x4953 }).nvm.limits = false ∧
    (loaded fun l => { l with nvData := 0x4953, nvm := { l.nvm with limits := true } }).asWritten.relations = true := by decide
theorem wit_nvm_open : (loaded fun l => { l with nvBusy := true, nvAddr := 6 }).nvBusy = true ∧
    NvmOpen (loaded fun l => { l with nvBusy := true, nvAddr := 6 }) ∧ NvmOpen (loaded id) ∧ NvmOpen Lalvo.reset := by
  refine ⟨rfl, ?_, ?_, ?_⟩ <;> unfold NvmOpen <;> decide
/-- Words whose relations fail: VHOLD too near below the PG pair. -/
theorem wit_relations : ∃ w : BitVec 16, ∃ k : Fin 64,
    (loaded fun l => { l with nvm := { l.nvm with words := l.nvm.words.set k w } }).asWritten.relations = false :=
  ⟨12, 9, by decide⟩

/-! ## Rails -/

/-- The rails on with phase A enabled, and their field slew done. -/
def railsOn (v : Vexone) : Vexone :=
  let on := fun (x : Rail) => { x with st := .on, ref := 1600, eff := 400 }
  { (v.setForce (railAddr .fb) 0x00640001).setForce (railAddr .ax) 0x00640001 with fb := on v.fb, ax := on v.ax }
def fbIs (f : Rail → Rail) (v : Vexone) : Vexone := { v with fb := f v.fb }
def risen (v : Vexone) : Vexone := { v with mbus := { v.mbus with risen := true, uvlo := false } }

theorem wit_rail_kill : Starts .u 0x1302 1 [] railsOn := by unfold Starts Begins Ticks; decide

theorem wit_rail_settings : Starts .c 0x1301 0 [500 * 65536 + 1400, 3] id ∧ (runs []).declRails.getLsbD 0 = true ∧
    Starts .c 0x1306 1 [160 * 256 + 150, 3] id ∧ Starts .c 0x1306 1 [159 * 256 + 150, 3] id ∧
    Starts .c 0x1304 1 [39] railsOn ∧ Starts .c 0x1304 0 [0] carrying ∧ (carrying ticking).unfurled ≠ 0 ∧
    Starts .c 0x1304 0 [0] id ∧ ticking.unfurled = 0 ∧ Starts .c 0x1307 1 [2000 * 65536 + 1] id := by
  unfold Starts Begins Ticks; decide

theorem wit_rail_on : Starts .c 0x1303 0 [39] risen ∧ Starts .c 0x1303 0 [39] id ∧ ticking.mbus.risen = false ∧
    Starts .c 0x1303 0 [39] (fun v => risen (v.latchRaw 0x0801 1)) ∧
    ((runs []).latchRaw 0x0801 1).firstLatched [0x0801, 0x0802, 0x0804, 0x0805, 0x0807] 0 = some 0x0801 ∧
    Starts .c 0x1303 0 [39] (fun v => risen (railsOn v)) := by unfold Starts Begins Ticks; decide

theorem wit_rail_holds : Starts .c 0x1303 0 [0] (fun v => { v with res := { v.res with hold := true } }) ∧
    (let f := fun v => risen (fbIs (fun x => { x with st := .latched }) v)
     Starts .c 0x1305 0 [] f ∧ (f (has .c 0x1305 0 [])).railProt .fb = none) ∧
    Starts .c 0x1305 0 [] risen ∧ (risen (has .c 0x1305 0 [])).railProt .fb = none ∧ ticking.fb.st ≠ .latched ∧
    ((ticking.latchRaw 0x0801 1).railProt .fb).isSome = true := by unfold Starts Begins Ticks; decide

theorem wit_rail_updates : Activity (actsOn 0x0201 id) 0 0x0201 (act 0x0201 0x8001) ∧
    Activity (railsOn (runs [act 0x0201 0x30000])) 0 0x0201 (act 0x0201 0x30000) ∧ (act 0x0201 0x30000).tracks.getLsbD 17 = true ∧
    Activity (railsOn (runs [act 0x0202 0x10000])) 0 0x0202 (act 0x0202 0x10000) := by unfold Activity Ticks; decide

theorem wit_rail_steps :
    let w := (railsOn ticking).atEdge (5424 * 2)
    Ticks (railsOn ticking) ∧ (railsOn ticking).clk.edge ≤ 5424 * 2 ∧ w.fb.switching = true ∧ w.fb.stepAt ≤ w.now ∧
      w.fb.offPend = false ∧ (fbIs (fun x => { x with offPend := true }) w).fb.delayTo ≤ w.now ∧
      (fbIs (fun x => { x with stepAt := w.now + 1 }) w).now < w.now + 1 ∧
      (let x := (fbIs (fun x => { x with st := .delay, delayTo := 7 }) ticking).atEdge 7
       x.fb.st = .delay ∧ x.fb.delayTo ≤ x.now ∧ ((fbIs (fun x => { x with delayTo := 7 }) ticking).atEdge 6).now < 7) := by
  unfold Ticks; decide

theorem wit_rail_ramps :
    let up : Rail := { (railsOn ticking).fb with st := .rampUp, ref := 0, aSlew := 100 }
    let down : Rail := { (railsOn ticking).fb with st := .rampDown, ref := 0, eff := 0, aSlew := 100 }
    stepTo up.ref (unitsOf .fb up.eff) up.aSlew ≠ unitsOf .fb up.eff ∧
      stepTo down.ref (unitsOf .fb down.eff) down.aSlew = unitsOf .fb down.eff ∧ down.switching = true ∧
      (let x := (railsOn ticking).fb
       stepTo (unitsOf .fb x.eff) (unitsOf .fb x.eff) x.aSlew = unitsOf .fb x.eff) := by decide

/-- Two phases of the field bus: one high, one low, and both between. -/
theorem wit_rail_balance :
    let v := (railsOn ticking).setForce (railAddr .fb) 0x00010003
    let sum := 1000 + 500
    v.phases .fb = [0, 1] ∧ 200 * fld (v.railReg .fb 0) 23 16 * 2 ≤ sum * fld (v.railReg .fb 0x0C) 31 24 ∧
      103 * sum < 100 * (1000 * 2) ∧ 100 * (500 * 2) < 97 * sum ∧ 97 * 2000 ≤ 100 * (1000 * 2) ∧ 100 * (1000 * 2) ≤ 103 * 2000 ∧
      0 * fld (v.railReg .fb 0x0C) 31 24 < 200 * fld (v.railReg .fb 0) 23 16 * 2 := by decide

theorem wit_rail_protections :
    let w := (railsOn ticking).atEdge 9
    let o := fld (w.railReg .fb 4) 23 20
    (railsOn ticking).alive = true ∧ w.fb.switching = true ∧ w.railTripable .fb = true ∧ w.phaseOn .fb 0 = true ∧
      w.phaseOn .fb 3 = false ∧ w.fb.ref * (100 + o) ≤ 400 * 4000 ∧ w.fb.ref * (100 + 2 * o) ≤ 400 * 4000 ∧
      w.fb.ref + 2000 ≤ 4 * 4000 ∧ 649 < 650 ∧ ticking.fb.switching = false ∧ ticking.railTripable .fb = false ∧
      (fbIs (fun x => { x with syncEn := true }) w).fb.syncEn = true ∧ w.clk.syncLost = false ∧ w.clk.syncOut = false ∧
      ({ w with clk := { w.clk with syncOut := true } } : Vexone).clk.syncGood = false := by decide

/-! ## Motion -/

/-- Motor 0 changed, in a device that runs an image. -/
def motor (f : Motor → Motor) (v : Vexone) : Vexone := { v with motors := v.motors.set 0 (f v.motors[0]) }
/-- A way of 1,000 edges, and an end zone of 10. -/
def wayOpen (v : Vexone) : Vexone := (v.setForce (motorAddr 0 + 8) 1000).setForce (motorAddr 0) 0x000A0064

theorem wit_motion : Starts .u 0x1401 0 [0xF] carrying ∧ (carrying ticking).eg.judged = 0 ∧ (0xF : BitVec 4) &&& (runs []).laneMask ≠ 0 ∧
    Starts .u 0x1402 3 [] (motor fun x => { x with st := .moving }) ∧ Starts .c 0x1403 0 [1] egressing ∧ Starts .c 0x1403 0 [1] id ∧
    Starts .c 0x1403 0 [0] (motor fun x => { x with st := .idle }) ∧ Starts .c 0x1404 0 [] id ∧ Starts .c 0x1406 0 [] id ∧
    (runs []).declMotors.getLsbD 0 = true := by unfold Starts Begins Ticks; decide

theorem wit_motion_bus : Starts .c 0x1409 0 [1] id ∧ Starts .c 0x140A 0 [0xF] id ∧ (0xF : BitVec 4) &&& ~~~(runs []).laneMask = 0 ∧
    Starts .c 0x140B 0 [] id ∧ Starts .c 0x1408 0 [65536 + 132, 3] id ∧ (runs []).mbusNom < 5 * 132 ∧ Starts .c 0x1407 0 [] id ∧
    (runs []).motorProt 0 [0x0901, 0x0902, 0x0903, 0x0904, 0x0906, 0x090A] = none := by
  unfold Starts Begins Ticks; decide

theorem wit_flap : let f := fun v => wayOpen (motor (fun x => { x with st := .idle, homed := true }) v)
    Starts .c 0x1405 0 [1000, 65537] f ∧ (f ticking).openMax 0 = 1000 ∧ (f ticking).motors[0].st = .idle ∧
      (runs []).motorMode 0 = 0 ∧ (runs []).motorMode 0 ≠ 2 := by unfold Starts Begins Ticks; decide

/-- A move to 6 of a motor at 4, after an edge with code 1. -/
def aMove (pos : Nat) (homing ol : Bool) : Move := { place := some 0, pos := pos, vmax := 1, acc := 1, homing := homing, steps := 2, openLoop := ol }
def moving (m : Move) (g : Motor → Motor) (v : Vexone) : Vexone :=
  motor (fun x => g { x with st := .moving, pos := 4, move := some m, hall := 1, expect := 1 }) v

theorem wit_hall_edges :
    let v := moving (aMove 6 false false) id (runs [])
    let w := moving (aMove 5 false false) id (has .c 0x1405 0 [5, 65537])
    v.hallMode 0 = true ∧ v.motors[0].window = none ∧ validCode (v.codeAfter 0 true 1) = true ∧ v.codeAfter 0 true 1 ≠ 1 ∧
      v.motors[0].fwd = true ∧ v.motors[0].pos + 1 < 6 ∧ w.egLane 0 = none ∧ w.opAt 0 = some (opOf .c 0x1405 0 [5, 65537]) ∧
      (5 : Int) = w.motors[0].pos + 1 ∧ (motor (fun x => { x with hall := 1 }) (runs [])).motors[0].st = .disabled ∧
      (motor (fun x => { x with hall := 1, st := .hold }) (runs [])).motors[0].move = none ∧ v.codeAfter 0 false 1 ≠ 1 ∧
      validCode 7 = false := by decide

theorem wit_hall_windows :
    let g := fun (x : Motor) => { x with edges := 2, tLast := some 0, interval := 40, pos := 0, vset := 1, vLast := 1 }
    let v := moving (aMove 6 false false) g (runs [])
    let w := moving (aMove 0 true false) (fun x => { g x with extra := true }) (runs [])
    v.motors[0].window.isSome = true ∧ (v.motors[0].window.map fun x => decide (x.2.1 ≤ 433920)) = some true ∧
      v.motors[0].extra = false ∧ w.motors[0].extra = true ∧ w.motors[0].window.isSome = true ∧ w.egLane 0 = none ∧
      ({ v.motors[0] with st := .braking, extra := true } : Motor).window.isSome = true := by decide

theorem wit_motor_faults :
    let v := wayOpen (moving (aMove 1000 false false) id { runs [] with clk := { (runs []).clk with t0 := 100000000 } })
    v.motors[0].edges = 0 ∧ v.motors[0].startAt + v.mf 0 0x04 31 24 * 216960 ≤ v.clk.t0 + max v.clk.edge 433919 ∧
      v.endZone 0 < v.toGo 0 1000 true ∧ v.motors[0].fallback = false ∧ v.motors[0].updAt + 40 * 5424 ≤ 0 + max 0 216960 ∧
      v.egLane 0 = none ∧ ({ v.motors[0] with st := .braking } : Motor).brakeTicks + 64 ≤ 64 := by decide

theorem wit_open_loop :
    let v := moving (aMove 6 false true) id (runs [])
    let d := { allDecl with motorMode := 1 }
    let w := { v with img := { v.img with active := { raw := [], image := some { imageWith [] with decl := d } } } }
    v.motorMode 0 ≠ 1 ∧ 1 < (aMove 6 false true).steps ∧ w.motorMode 0 = 1 ∧ w.motors[0].pos + 1 < 6 := by decide

/-- An egress lane of motor 0. -/
def lane0 (begun : Bool) (v : Vexone) : Vexone :=
  { v with eg := { v.eg with active := true, plan := [{ lane := 0, start := 0, begun := begun, done := false }] } }

theorem wit_motor_activities : Activity (runs [act 0x0301 0x800000]) 0 0x0301 (act 0x0301 0x800000) ∧
    0 ∈ (act 0x0301 0x800000).motors ∧ Activity (lane0 true (runs [act 0x0304 0x800000])) 0 0x0304 (act 0x0304 0x800000) ∧
    (lane0 true ticking).egLane 0 ≠ none ∧ Activity (moving (aMove 6 false false) id (runs [act 0x0302 0x800000])) 0 0x0302 (act 0x0302 0x800000) ∧
    Activity (runs [act 0x0303 0]) 0 0x0303 (act 0x0303 0) := by unfold Activity Ticks; decide

theorem wit_bus :
    let v := runs [act 0x0303 0]
    let c := { v with mbus := { v.mbus with chopEn := true }, res := { v.res with on := true } }
    c.vOff ≤ c.vOn ∧ c.mbus.chopEn = true ∧ 50 * c.mbus.thr ≤ 6000 ∧ c.regenLevels.1 ≤ 100 * 6000 ∧ c.res.on = true ∧ c.resFault = false ∧
      100 * 0 < c.regenLevels.1 ∧ 100 * 0 < c.regenLevels.2 := by decide

theorem wit_egress_start :
    let v := motor (fun x => { x with st := .hold, homed := true, pos := 4 }) (lane0 false (runs []))
    let w := v.setForce 0x0884 0x00010005
    v.egLane 0 = some { lane := 0, start := 0, begun := false, done := false } ∧ v.motors[0].st = .hold ∧ v.motors[0].fallback = false ∧
      v.motorMode 0 = 0 ∧ v.egPos 0 ≤ v.motors[0].pos ∧ w.motors[0].pos < w.egPos 0 ∧ v.declMotors.getLsbD 0 = true ∧
      (let d := { allDecl with motorMode := 2 }
       ({ v with img := { v.img with active := { raw := [], image := some { imageWith [] with decl := d } } } } : Vexone).motorMode 0 = 2) := by
  decide

theorem wit_motor_enable : let f := motor fun x => { x with st := .faultOff }
    Starts .c 0x1403 0 [1] (fun v => (f v).latchRaw 0x0901 1) ∧ ((f (runs [])).latchRaw 0x0901 1).latched 0x0901 0 = true ∧
    Starts .c 0x1403 0 [1] f ∧ (f (runs [])).latched 0x0901 0 = false ∧ Starts .c 0x1403 0 [0] (motor fun x => { x with st := .moving }) ∧
    Starts .c 0x1407 0 [] (fun v => v.latchRaw 0x0902 1) ∧
    ((runs []).latchRaw 0x0902 1).motorProt 0 [0x0901, 0x0902, 0x0903, 0x0904, 0x0906, 0x090A] = some 0x0902 := by
  unfold Starts Begins Ticks; decide

/-- An edge with an invalid code in the very CCLK in which a short has stopped its motor. -/
theorem wit_hall_after_short :
    let w := (motor (fun x => { x with st := .faultOff, stWas := .moving, stAt := 9, hall := 1 }) (runs [])).atEdge 9
    w.hallMode 0 = true ∧ (7 : BitVec 3) ≠ w.motors[0].hall ∧ w.motors[0].st = .faultOff ∧ validCode 7 = false ∧ w.shortNow 0 = true := by
  decide

theorem wit_chopper :
    let w := ({ runs [] with mbus := { Mbus.reset with chop := true, chopAt := 9 } } : Vexone).atEdge 442
    0 < w.vOff ∧ w.mbus.chop = true ∧ w.now < w.mbus.chopAt + 434 ∧ w.mbus.chopAt + 434 ≤ (w.atEdge 443).now := by decide

/-- An egress lane's motor that a stop has put into brake-hold with its move. -/
theorem wit_resumed_lane :
    let v := lane0 true (motor (fun x => { x with st := .hold, move := some (aMove 6 false false) }) (runs []))
    (v.egLane 0).isSome = true ∧ v.egLane 0 = some { lane := 0, start := 0, begun := true, done := false } ∧ v.motors[0].st = .hold ∧
      v.motors[0].move = some (aMove 6 false false) ∧ (runs []).egLane 0 = none := by decide

/-! ## Reservoir and mains -/

def charged (f : Reservoir → Reservoir) (v : Vexone) : Vexone := { v with res := f v.res }

theorem wit_charger : Starts .u 0x1604 0 [] (charged fun r => { r with on := true }) ∧ ticking.due = [] ∧
    Starts .c 0x1601 0 [285 * 65536 + 500] id ∧ (runs []).declRails.getLsbD 2 = true ∧ Starts .c 0x1602 0 [] id ∧ ticking.res.ovInit = true ∧
    Starts .c 0x1602 0 [] (fun v => charged (fun r => { r with ovInit := false }) (v.latchRaw 0x0A05 1)) ∧
    resFaults.find? ((runs []).latchRaw 0x0A05 1).anyLatched = some 0x0A05 ∧ resFaults.find? (runs []).anyLatched = none := by
  unfold Starts Begins Ticks; decide

theorem wit_charger_on : Starts .c 0x1602 0 [] (charged fun r => { r with ovInit := false, on := true }) ∧
    Starts .c 0x1602 0 [] (charged fun r => { r with ovInit := false }) ∧ Starts .c 0x1603 0 [] id ∧ Starts .c 0x1605 0 [100 * 256] id := by
  unfold Starts Begins Ticks; decide

/-- Lines 2,880 mV apart: every cell at its threshold. -/
def fullLines : Vector Nat 7 := #v[0, 2880, 5760, 8640, 11520, 14400, 17280]

theorem wit_scans : Activity (runs [act 0x0203 0]) 0 0x0203 (act 0x0203 0) ∧ Activity (runs [act 0x0401 0]) 0 0x0401 (act 0x0401 0) ∧
    Activity (runs [act 0x0204 0]) 0 0x0204 (act 0x0204 0) ∧ (∀ k : Fin 6, 2880 ≤ fullLines[k.val + 1] - fullLines[k.val]) ∧
    (let w := (charged (fun r => { r with cellOv := 0x3F, stackOv := true }) (runs [act 0x0401 0])).atEdge 1024
     w.res.paired 5 = false ∧ w.res.cellOv.getLsbD 5 = true ∧ w.res.ovRead.getLsbD 5 = false ∧ w.res.stackOv = true ∧
       w.res.ovRead.getLsbD 6 = false) ∧ 17280 ≤ fullLines[6] := by unfold Activity Ticks; decide

theorem wit_verdict :
    let v := charged (fun r => { r with verdict := some 0x05, diagTo := 1024 }) (runs [act 0x0501 0])
    Activity v 0 0x0501 (act 0x0501 0) ∧ (v.atEdge 1024).res.verdict = some 0x05 ∧ (v.atEdge 1024).res.diagTo ≤ (v.atEdge 1024).now := by
  unfold Activity Ticks; decide

theorem wit_stack_low :
    let w := (charged (fun r => { r with on := true, lowRun := 64 }) { ticking with mains := { ticking.mains with st := 0 } }).atEdge 9
    w.alive = true ∧ w.res.on = true ∧ w.mainsAbsent = false ∧ w.res.stack < w.resMin ∧ 64 ≤ w.res.lowRun := by decide

/-- Armed, with the mains present, the last P_STAT at CCLK 0. -/
def armed (f : Mains → Mains) (v : Vexone) : Vexone :=
  { v with eg := { v.eg with armed := 0xF }, mains := f { v.mains with st := 0, seen := true } }
def pStatOf (present bo good : Bool) : PStatMsg := ⟨present, bo, true, false, false, good⟩
theorem wit_mains :
    let w := (armed id ticking).atEdge 108480
    (armed id ticking).alive = true ∧ w.eg.armed ≠ 0 ∧ w.eg.judged = 0 ∧ w.mains.st = 0 ∧ w.mains.relink = 0 ∧ w.mains.lost = false ∧
      w.mains.statAt + 108480 ≤ w.now ∧ ((armed id ticking).atEdge 108479).now < w.mains.statAt + 108480 ∧ w.eg.nHigh = true ∧
      ticking.eg.armed = 0 ∧ ticking.mains.seen = false ∧ (armed (fun m => { m with relink := 1 }) w).mains.relink = 1 := by decide

theorem wit_egress_stop :
    let v := { egressing (runs []) with eg := { (egressing (runs [])).eg with stopDue := true } }
    v.eg.active = true ∧ v.eg.stopDue = true ∧ v.mainsAbsent = true ∧
      ({ v with mains := { v.mains with st := 0 } } : Vexone).mainsAbsent = false := by decide

theorem wit_pri_en : PriEnHolds Primary.reset ∧ PriEnHolds { Primary.reset with st := .present, priEn := true } ∧
    ({ Primary.reset with st := .present } : Primary).st = .present := by unfold PriEnHolds; decide

/-! ## Fans, resets, ports, racks -/

def hotDie (v : Vexone) : Vexone := { v with th := { v.th with hot := true } }
theorem wit_fans : Starts .c 0x1505 0 [65535] id ∧ Starts .c 0x1506 0 [] id ∧ (begun (has .c 0x1506 0 []) 0 0 (opOf .c 0x1506 0 []) (cleat .c)).forceCause = none ∧
    Starts .c 0x1506 0 [] hotDie := by
  unfold Starts Begins Ticks; decide
theorem wit_fan_settings : Starts .c 0x1507 7 [6000] id ∧
    Starts .c 0x1501 3 [100 * 65536 + 125 * 256 + 7, 3] id ∧ Starts .c 0x1502 3 [255 * 65536 + 100 * 256 + 2] id ∧
    Starts .c 0x1503 3 [20] id ∧ Starts .c 0x1504 3 [65536 + 20000] id := by unfold Starts Begins Ticks; decide

theorem wit_fan_activities : Activity (runs [act 0x0205 0x80000]) 0 0x0205 (act 0x0205 0x80000) ∧ 0 ∈ (act 0x0205 0x80000).fans ∧
    Activity (runs [act 0x0402 0]) 0 0x0402 (act 0x0402 0) ∧
    (let w := ({ runs [] with fwd := { ticking.fwd with due := true } } : Vexone).atEdge 16
     w.fwd.due = true ∧ w.declFans.getLsbD 0 = true ∧ w.res.low = false) ∧ ticking.fwd.due = false := by
  unfold Activity Ticks; decide
theorem wit_fan_ends :
    let th := { ticking.th with ins := ticking.th.ins.set 0 { beta := 3435, t8 := 0, badRun := 1, goodRun := 0, faulted := false } }
    let v := { fbIs (fun x => { x with shutRun := 1 }) (railsOn (runs [])) with th := th }
    v.declFans.getLsbD 0 = true ∧ v.res.low = false ∧ v.fans[0].forced = 0 ∧ v.fans[0].mode = 0 ∧ v.declTherms.getLsbD 0 = true ∧
      thermBad 0 = true ∧ 1 ≤ v.th.ins[0].badRun ∧ v.th.ins[0].faulted = false ∧ 1 ≤ v.fb.shutRun ∧ 8 * (v.fb.shut : Int) ≤ 1000 ∧
      v.fb.switching = true ∧ (fbIs (fun x => { x with st := .latched }) v).fb.st = .latched ∧ ticking.fb.switching = false := by decide

theorem wit_enables : ((ownedBy .m1 ticking).accessed 9 .m1).isOwner .m1 = true ∧
    ((ownedBy .m1 ticking).accessed 9 .m0).isOwner .m0 = false ∧ (ticking.latchRaw 0x0C03 1).faultN = true := by decide

theorem wit_resets : ({ ticking with pw := { ticking.pw with stage := .held } } : Vexone).pw.stage = .held ∧ ticking.pw.stage ≠ .held ∧
    (sees .m0 ticking).hal.st = .free ∧ fld (0xA55A0001 : Word) 31 16 = 0xA55A ∧ fld (0xA55A0001 : Word) 0 0 = 1 ∧
    (sees .m0 ticking).resetRefused = false ∧ (sees .m0 (egressing ticking)).resetRefused = true ∧ fld (0xA55A0000 : Word) 0 0 = 0 ∧
    (sees .m0 (ownedBy .m1 ticking)).isOwner .m0 = false ∧ (sees .m0 (ownedBy .m1 ticking)).hal.st ≠ .free := by decide
theorem wit_reset_runs :
    let v := { ticking with pw := { ticking.pw with stage := .inReset 9 } }
    v.pw.stage = .inReset 9 ∧ v.clk.ticking = true ∧ v.later = [] := by decide

theorem wit_port_resets : (ticking.atEdge 9).portA.flr = false ∧ (ticking.atEdge 9).portA.perst = false ∧
    (let v := ticking.setPort .a { ticking.portA with flr := true, flrTo := 7 }
     ((v.atEdge 7).portOf .a).flr = true ∧ ((v.atEdge 7).portOf .a).flrTo ≤ (v.atEdge 7).now ∧
       (v.atEdge 6).now < ((v.atEdge 6).portOf .a).flrTo) ∧
    (((ticking.setPort .b { ticking.portB with perst := true }).atEdge 9).portOf .b).perst = true := by decide
/-- An operation that a port reset has left, complete, whose execution ends later. -/
theorem wit_orphan :
    let o := { opOf .c 0x1B03 0 [] with orphan := true, phase := .complete ⟨0, 0, 0, 0⟩, readyAt := 33 }
    o.m = Port.a.master ∧ o.orphan = true ∧ o.isComplete = true ∧
      (({ ticking with ops := [o] } : Vexone).atEdge 9).now + 1 < o.readyAt := by decide

theorem wit_registers_written : (ownedBy .m1 ticking).alive = true ∧ isRw 0x0010 = true ∧ isRw 0x0000 = false ∧
    (0x0FFC : BitVec 16).toNat % 4 = 0 ∧ (0x0FFC : BitVec 16).toNat < 0x1000 ∧ (sees .m1 (ownedBy .m1 ticking)).isOwner .m1 = true ∧
    (sees .m0 (ownedBy .m1 ticking)).isOwner .m0 = false := by decide

theorem wit_spi : [(0x05 : Byte)].length < 4 ∧ [(0x05 : Byte), 0, 0, 0].head? ≠ some 0x02 ∧ (1 : Byte).toNat % 4 ≠ 0 ∧
    (0xFC : Byte).toNat % 4 = 0 ∧ [(0x0B : Byte), 0, 0, 0, 0].length < 6 ∧
    ({ ticking with pw := { ticking.pw with stage := .stopping 9 } } : Vexone).alive = false := by decide

/-- A conveyor rack, its carriage at column 3 and known. -/
def conveyor (f : Rack → Rack) (v : Vexone) : Vexone :=
  let v := aRack v
  { v with rack := f { v.rack with k := 3, certain := true, run := true } }
def pocketSel : Entry := act 0x0105 1
def pocketRuns (f : Rack → Rack) : Vexone :=
  let d := { allDecl with deploy := 2, pockets := 8 }
  { runs [pocketSel] with img := { Images.reset with active := { raw := [], image := some { imageWith [pocketSel] with decl := d } } }
                          rack := f { Rack.reset with k := 3, certain := true, run := true } }

theorem wit_pockets : Activity (dark (pocketRuns fun r => { r with q := 3 })) 0 0x0105 pocketSel ∧ (pocketRuns id).isRack = true ∧
    (dark (pocketRuns id)).segs[0].live = true ∧ (pocketRuns id).pocketClear ((1 + 3) % 8) = false ∧
    (pocketRuns id).pocketClear ((1 + 0) % 8) = true := by unfold Activity Ticks; decide

theorem wit_teeth : (pocketRuns id).conveyor = true ∧ (pocketRuns id).rack.homeAt ≠ some 0 ∧ (pocketRuns id).rack.lost = false ∧
    (pocketRuns id).rack.window = none ∧ (pocketRuns id).rack.run = true ∧
    ({ (pocketRuns id).rack with teeth := 2, tLast := some 0, interval := 400 } : Rack).window = some (300, 500) ∧
    ticking.conveyor = false ∧ ((pocketRuns id).decl.any fun d => d.lins.getLsbD 3) = true ∧
    ((pocketRuns id).decl.any fun d => d.lins.getLsbD 1) = true ∧ ticking.lin.getLsbD 15 = false := by decide

/-! ## Well-formedness: an ill-formed command for each check -/

theorem refuses_empty_descriptors : WellFormed (.descriptorData 0 0 []) = false := by decide
theorem refuses_nine_descriptors : WellFormed (.descriptorData 0 0 (List.replicate 129 0)) = false ∧
    WellFormed (.descriptorData 0 0 (List.replicate 128 0)) = true := by decide +kernel
theorem refuses_long_fill : WellFormed (.fillData 0 0 (List.replicate 129 0)) = false ∧
    WellFormed (.fillData 0 0 (List.replicate 128 0)) = true ∧ WellFormed (.fillData 0 0 []) = false := by decide +kernel
theorem refuses_bad_image_data : WellFormed (.imageLoadData 0 0 []) = false ∧
    WellFormed (.imageLoadData 0 0 (List.replicate 513 0)) = false := by decide +kernel
theorem refuses_bad_buffer_data : WellFormed (.bufferData 0 0 []) = false ∧
    WellFormed (.bufferData 0 0 (List.replicate 513 0)) = false := by decide +kernel
/-- 09 Tables 9-2, 9-3: at 55 mV step 1 lasts at most 30 ms; a field is lost in steps 1 to 4 before harvesting. -/
theorem refuses_bad_cold_start : WellFormed (.coldStart { cold 55 2100 (some 5) with us := 800 }) = false ∧
    WellFormed (.coldStart { cold 55 2100 none with us := 30801 }) = false ∧
    WellFormed (.coldStart { cold 55 2100 none with us := 30800 }) = true := by decide

/-! ## Examples of the spec -/

/-- 02 section 2.7: the two entries as bytes. -/
theorem test_entry_bytes :
    let p := entryAt [0x70, 0x15, 0x00, 0x05, 0xF0, 0x14, 0x00, 0x95, 0, 0, 0, 0, 0x03, 0, 0, 0] 0
    let u := entryAt [0xA0, 0x2A, 0x00, 0x40, 0x00, 0x02, 0, 0, 0x01, 0x00, 0x01, 0x05, 0, 0, 0, 0x20] 0
    p.kind = 1 ∧ p.start = 5488 ∧ p.cls = 2 ∧ p.partner = 21 ∧ p.dur = 5360 ∧ p.tracks = 3 ∧ p.engines = 1 ∧
      u.start = 10912 ∧ u.kind = 0 ∧ u.engines = 0x10 ∧ u.code = 0x0501 ∧ u.tracks = 0x20000000 := by decide +kernel

/-- 08 section 8.6: the copy of OP_SET with TUNE 37 and ratio 4 to handle 0x1C4 of bank 2 under SEQ 5. -/
theorem test_directive_copy :
    directiveWord 0x1C4 2 5 0x02 0x2560 false = 0x1C44A14AC0 ∧ crc8 (natBits 40 0x1C44A14AC0) = 0xD3 ∧
      (directiveOf 0 0x1C44A14AC0).handle = 0x1C4 ∧ (directiveOf 0 0x1C44A14AC0).a 13 8 = 37 := by decide +kernel

/-- 03 section 3.5: MIN at the reset budgets, at the largest, and of M2. -/
theorem test_watchdog_minimum : Halyard.reset.minFor .m0 = 27 ∧ Halyard.reset.minFor .m1 = 27 ∧ Halyard.reset.minFor .m2 = 2 ∧
    ({ Halyard.reset with budgetA := { recovMs := 64, replayUs := 255 } } : Halyard).minFor .m0 = 68 := by decide

/-- 12 section 12.7: MBUS_NOM 48 V, REGEN_LVL 5, THR 120 and CHOP_HYST 4. -/
theorem test_chopper_levels :
    let d := { allDecl with mbusNom := 480 }
    let v := ({ runs [] with img := { Images.reset with active := { raw := [], image := some { imageWith [] with decl := d } } } }).setForce
      0x08C0 0x00000450
    let w := { v with mains := { v.mains with st := 0 } }
    v.vOn = 5800 ∧ v.vOff = 5600 ∧ 50 * v.mbus.thr = 6000 ∧ w.regenLevels = (504000, 492000) := by decide

/-- 17 section 17.8: fault 0x0602 of segment 6 in frame 600,001 is entry 33, at 0x7C90; subsystem 6 shows bit 1. -/
theorem test_fault_mirror :
    let v := ({ ticking with clk := { ticking.clk with frame := 600001 } } : Vexone).latchF 0x0602 6
    let s := withV v
    s.readReg .m0 0x7C90 = 0x06020001 ∧ s.readReg .m0 0x7C94 = 0x40 ∧ s.readReg .m0 0x7C98 = 600001 ∧
      s.readReg .m0 0x7C9C = 600001 ∧ s.readReg .m0 0x7A18 = 2 := by decide +kernel

/-- 17 R598, Table 17-10: a target that took effect at a tick shows in RAIL_CMD from edge 8 on; before, the value of 4.00 V. -/
theorem test_mirror_before_edge_8 :
    let v := { ticking.keepShown with fb := { ticking.fb with tgt := 500 } }
    (v.atEdge 7).readMirror 0x7500 = 0x006400C8 ∧ (v.atEdge 8).readMirror 0x7500 = 0x006401F4 := by decide

/-- 17 section 17.1: ring 6 of M1 has its set-up at 0x24C0. -/
theorem test_ring_address : ringAddr 1 6 = 0x24C0 := by decide

/-- 18 section 18.3: a tooth every 650,880 CCLK has its window from 488,160 to 813,600. -/
theorem test_tooth_window : ({ Rack.reset with teeth := 2, tLast := some 0, interval := 650880 } : Rack).window = some (488160, 813600) := by
  decide

/-- 09 section 9.9: CAP 2,000, Q_g 0 and a cell at 3.80 V: DISAG is set, and the anchor at rest gives 800, GAUGE 80. -/
theorem test_gauge_says_empty :
    let nvm := { inField.nvm with words := inField.nvm.words.set 3 2000 }
    let l : Lalvo := { inField with vcs := 3800, nvm := nvm }
    l.compare.disag = true ∧ (l.anchor (l.restCharge 3800)).qg = 800 ∧ (l.anchor (l.restCharge 3800)).disag = false ∧
      (l.anchor (l.restCharge 3800)).gauge = 80 := by decide +kernel

/-- 01 Table 1-3: both halves of row 5 of FAN2 take effect at a tick; one alone waits for a commit. -/
theorem test_fan_row_halves :
    let v := ticking.pairWrite (.fanRow 2 5) (some 50) none
    let w := v.pairWrite (.fanRow 2 5) none (some 55)
    (v.tickPairs.fans[2].rows[5].temp, v.tickPairs.fans[2].rows[5].duty) = (-40, 100) ∧
      (w.tickPairs.fans[2].rows[5].temp, w.tickPairs.fans[2].rows[5].duty) = (50, 55) := by decide

/-- 00 R10 and 17 Table 17-5: the identity register reads as laid out to every master. -/
theorem test_identity : State.reset.readReg .m0 0x0000 = 0x0416024D ∧ State.reset.readReg .m2 0x0000 = 0x0416024D := by decide

/-- 11 section 11.4: a slew of 6.00 V, 24,000 units, at 200 units a slot takes 120 slots. -/
theorem test_slew : Nat.repeat (fun r => stepTo r 24000 200) 119 0 = 23800 ∧ Nat.repeat (fun r => stepTo r 24000 200) 120 0 = 24000 := by
  decide +kernel

/-- 02 section 2.3 names SHA-256: the digest of the three bytes "abc" in its standard (FIPS 180-4). -/
theorem test_sha256 : sha256 [0x61, 0x62, 0x63] =
    [0xba, 0x78, 0x16, 0xbf, 0x8f, 0x01, 0xcf, 0xea, 0x41, 0x41, 0x40, 0xde, 0x5d, 0xae, 0x22, 0x23,
     0xb0, 0x03, 0x61, 0xa3, 0x96, 0x17, 0x7a, 0x9c, 0xb4, 0x10, 0xff, 0x61, 0xf2, 0x00, 0x15, 0xad] := by decide +kernel
end Sys2Proof.Tests
end

section
/-! SUPPORT. HAL_KICK against the owner watchdog (03 R97, R102, R108): what a kick does by the state of the Halyard, what a late
one leaves alone, and the statement about both. -/

namespace Sys2Proof.Machine

open Sys2Proof Sys2Proof.Safety

/-! ## A late kick -/

@[simp] theorem Vexone.lateKick_hal (v : Vexone) (m : Master) : (v.lateKick m).hal = v.hal := by simp [Vexone.lateKick]
@[simp] theorem Vexone.lateKick_fwd (v : Vexone) (m : Master) : (v.lateKick m).fwd = v.fwd := by simp [Vexone.lateKick]

theorem Vexone.latched_lateKick (v : Vexone) (m : Master) : (v.lateKick m).latched 0x0302 0 = true :=
  Vexone.latched_emit _ _ _ _ _ (v.latched_latchRaw 0x0302 1 0 rfl)

/-! ## A kick by the state of the Halyard -/

/-- A lapsed Halyard has no owner. -/
theorem Vexone.isOwner_of_lapsed {v : Vexone} {lost : Master} (h : v.hal.st = .lapsed lost) (m : Master) :
    v.isOwner m = false := by
  simp [Vexone.isOwner, Halyard.owner, h]

theorem Vexone.kick_of_lapsed {v : Vexone} {m : Master} (h : v.hal.st = .lapsed m) : v.kick m = v.lateKick m := by
  simp [Vexone.kick, h]

theorem Vexone.kick_of_isOwner {v : Vexone} {m : Master} (h : v.isOwner m = true) :
    v.kick m = if v.hal.count = 0 then v.lateKick m
      else ({ v with hal := { v.hal with count := v.hal.effFor m } } : Vexone).fanKick m := by
  unfold Vexone.kick
  split
  case h_1 lost hst => simp [Vexone.isOwner_of_lapsed hst m] at h
  case h_2 => rw [if_pos h]

theorem Vexone.kick_of_observer {v : Vexone} {m : Master} (hst : v.hal.st ≠ .lapsed m) (h : v.isOwner m = false) :
    v.kick m = v := by
  unfold Vexone.kick
  split
  case h_1 lost hlost => exact if_neg fun hm => hst (hlost.trans (congrArg _ hm))
  case h_2 => simp [h]

/-- A kick of the owner at the counter's zero and one of the lost owner are late (03 R108, R102). -/
theorem Vexone.kick_late {v : Vexone} {m : Master} (h : v.isOwner m = true ∧ v.hal.count = 0 ∨ v.hal.st = .lapsed m) :
    v.kick m = v.lateKick m := by
  obtain ⟨hown, hzero⟩ | hst := h
  · rw [Vexone.kick_of_isOwner hown, if_pos hzero]
  · exact Vexone.kick_of_lapsed hst

/-! ## The command -/

/-- On a running die a kick acts on the state that its access finds. -/
theorem exec_halKick {s : State} (e : Edge) (m : Master) (h : s.vx.alive = true) :
    exec (.halKick e m) s = .next (withVx s ((s.vx.accessed e.val m).kick m)) := by
  have hexec : exec (.halKick e m) s = execHalKick e m s := rfl
  rw [hexec, execHalKick, onVx_next, Vexone.access_alive _ _ _ _ h]

/-- Settles O17: late kicks, the owner's earlier kicks and other observers' kicks in turn. -/
theorem kickReloadsUnlessLate : Obligations.KickReloadsUnlessLate := by
  intro s e m halive
  rw [exec_halKick e m halive]
  refine ⟨fun hlate => ?late, fun hown hcount => ?early, fun hst hown => ?observer⟩
  case late =>
    refine ⟨_, rfl, withVx_only _ _, ?_⟩
    rw [withVx_vx, Vexone.kick_late hlate]
    exact ⟨rfl, Vexone.lateKick_hal _ _, Vexone.latched_lateKick _ _, Vexone.lateKick_fwd _ _⟩
  case early =>
    refine ⟨_, rfl, withVx_only _ _, ?_⟩
    rw [withVx_vx, Vexone.kick_of_isOwner hown, if_neg hcount]
    exact ⟨Vexone.fanKick_hal _ _, Vexone.fanKick_faults _ _⟩
  case observer => rw [Vexone.kick_of_observer hst hown]

end Sys2Proof.Machine
end

section
/-! SUPPORT. The fuses of a pass (10 R362 to R366): what every step of the machine leaves of its NVM. A command moves the pass die
from one state to another by `Lalvo.KeepsFuses`, a preorder: most parts of a command leave the store of the die alone, and six
write to it (a word programmed, the loss of supply, the aged mark, an address set, a write begun, a fuse blown). -/

namespace Sys2Proof.Machine

open Sys2Proof Sys2Proof.Safety

/-! ## Words of a vector changed at a numeric index -/

theorem vmodN_other {α : Type} {n : Nat} (v : Vector α n) (i : Nat) (k : Fin n) (f : α → α) (h : k.val ≠ i) :
    (vmodN v i f)[k] = v[k] := by
  unfold vmodN
  split
  case isTrue hi => exact vmod_other v ⟨i, hi⟩ k f fun e => h (congrArg Fin.val e)
  case isFalse => rfl

/-! ## What the fuses have closed -/

/-- A word that the fuses as they stand keep from every command and every event (10 R365, Table 10-6). -/
def LavNvm.Closed (n : LavNvm) (k : Nat) : Prop :=
  k = 0 ∨ (56 ≤ k ∧ k ≤ 61) ∨ (n.limits = true ∧ 48 ≤ k ∧ k ≤ 55) ∨ (n.issued = true ∧ k ≠ 12 ∧ k ≠ 63)

theorem LavNvm.not_closed_agedMark (n : LavNvm) : ¬ n.Closed 12 := by simp [LavNvm.Closed]
theorem LavNvm.not_closed_crc (n : LavNvm) : ¬ n.Closed 63 := by simp [LavNvm.Closed]

/-- An NVM that may follow another: no blown fuse is whole again, no closed word has changed. -/
structure LavNvm.Follows (m n : LavNvm) : Prop where
  limits : n.limits = true → m.limits = true
  issued : n.issued = true → m.issued = true
  words : ∀ k : Fin 64, n.Closed k.val → m.words[k] = n.words[k]

theorem LavNvm.Follows.refl (n : LavNvm) : n.Follows n := ⟨id, id, fun _ _ => rfl⟩

theorem LavNvm.Follows.closed {m n : LavNvm} (h : m.Follows n) {k : Nat} (hk : n.Closed k) : m.Closed k := by
  obtain hk | hk | ⟨hl, hk⟩ | ⟨hi, hk⟩ := hk
  · exact .inl hk
  · exact .inr (.inl hk)
  · exact .inr (.inr (.inl ⟨h.limits hl, hk⟩))
  · exact .inr (.inr (.inr ⟨h.issued hi, hk⟩))

theorem LavNvm.Follows.trans {a b c : LavNvm} (hab : b.Follows a) (hbc : c.Follows b) : c.Follows a :=
  ⟨hbc.limits ∘ hab.limits, hbc.issued ∘ hab.issued,
    fun k hk => (hbc.words k (hab.closed hk)).trans (hab.words k hk)⟩

/-- One word that is not closed may change to anything. -/
theorem LavNvm.follows_modWord (n : LavNvm) (k : Nat) (f : BitVec 16 → BitVec 16) (h : ¬ n.Closed k) :
    ({ n with words := vmodN n.words k f } : LavNvm).Follows n :=
  ⟨id, id, fun _ hj => vmodN_other _ _ _ _ fun e => h (e ▸ hj)⟩

/-- A write of a word that is not closed; the CRC that it brings up to date never is. -/
theorem LavNvm.follows_write (n : LavNvm) (k : Nat) (w : BitVec 16) (h : ¬ n.Closed k) : (n.write k w).Follows n :=
  (n.follows_modWord k (fun _ => w) h).trans (LavNvm.follows_modWord _ 63 _ (LavNvm.not_closed_crc _))

/-- The word being programmed is none that the fuses have closed, and not the CRC, which is no command's to write. -/
theorem nvmOpen_iff (l : Lalvo) : NvmOpen l ↔
    (l.nvBusy = true → l.nvm.issued = false ∧ l.nvAddr ≠ 63 ∧ ¬ l.nvm.Closed l.nvAddr.toNat) := by
  constructor
  · intro h hbusy
    obtain ⟨hissued, h0, hcrc, hkey, hlimits⟩ := h hbusy
    refine ⟨hissued, hcrc, ?_⟩
    rintro (hk | hk | ⟨hl, hk⟩ | ⟨hi, -⟩)
    · exact h0 (BitVec.eq_of_toNat_eq hk)
    · exact hkey hk
    · exact hlimits hl hk
    · exact Bool.false_ne_true (hissued.symm.trans hi)
  · intro h hbusy
    obtain ⟨hissued, hcrc, hclosed⟩ := h hbusy
    exact ⟨hissued, fun e => hclosed (.inl (congrArg BitVec.toNat e)), hcrc, fun hk => hclosed (.inr (.inl hk)),
      fun hl hk => hclosed (.inr (.inr (.inl ⟨hl, hk⟩)))⟩

theorem nvmOpen_of_idle {l : Lalvo} (h : l.nvBusy = false) : NvmOpen l :=
  fun hbusy => absurd (h.symm.trans hbusy) Bool.false_ne_true

/-! ## Moves of the pass die that keep its fuses -/

/-- The pass die may go from l to t: the word being programmed stays open, and the NVM follows the one before. -/
def Lalvo.KeepsFuses (l t : Lalvo) : Prop := NvmOpen l → NvmOpen t ∧ t.nvm.Follows l.nvm

theorem Lalvo.KeepsFuses.trans {a b c : Lalvo} (hab : a.KeepsFuses b) (hbc : b.KeepsFuses c) : a.KeepsFuses c := by
  intro h
  obtain ⟨hb, hfab⟩ := hab h
  obtain ⟨hc, hfbc⟩ := hbc hb
  exact ⟨hc, hfab.trans hfbc⟩

/-- What of the pass die the rules on its fuses speak of: the NVM, whether a word is being programmed, and the address. -/
def Lalvo.store (l : Lalvo) : LavNvm × Bool × BitVec 6 := (l.nvm, l.nvBusy, l.nvAddr)

theorem Lalvo.store_eq_iff {l t : Lalvo} : t.store = l.store ↔ t.nvm = l.nvm ∧ t.nvBusy = l.nvBusy ∧ t.nvAddr = l.nvAddr := by
  simp [Lalvo.store]

theorem Lalvo.KeepsFuses.of_store {l t : Lalvo} (h : t.store = l.store) : l.KeepsFuses t := by
  obtain ⟨hnvm, hbusy, haddr⟩ := Lalvo.store_eq_iff.mp h
  intro hopen
  refine ⟨?_, hnvm ▸ .refl _⟩
  unfold NvmOpen at hopen ⊢
  rwa [hnvm, hbusy, haddr]

theorem Lalvo.KeepsFuses.refl (l : Lalvo) : l.KeepsFuses l := .of_store rfl

/-- A move that ends with parts that leave the store alone. -/
theorem Lalvo.KeepsFuses.store_right {l t u : Lalvo} (h : l.KeepsFuses t) (hu : u.store = t.store) : l.KeepsFuses u :=
  h.trans (.of_store hu)

/-- A move that begins with parts that leave the store alone. -/
theorem Lalvo.KeepsFuses.store_left {l t u : Lalvo} (h : t.KeepsFuses u) (ht : t.store = l.store) : l.KeepsFuses u :=
  (Lalvo.KeepsFuses.of_store ht).trans h

theorem Lalvo.KeepsFuses.ite {c : Prop} [Decidable c] {l a b : Lalvo} (ha : l.KeepsFuses a) (hb : l.KeepsFuses b) :
    l.KeepsFuses (if c then a else b) := by
  split
  · exact ha
  · exact hb

/-! ## Parts that leave the store alone -/

namespace Lalvo

theorem ite_store {c : Prop} [Decidable c] {a b l : Lalvo} (ha : a.store = l.store) (hb : b.store = l.store) :
    (if c then a else b).store = l.store := by
  split
  · exact ha
  · exact hb

@[simp] theorem retarget_store (l : Lalvo) : l.retarget.store = l.store := rfl
@[simp] theorem startTracker_store (l : Lalvo) : l.startTracker.store = l.store := rfl
@[simp] theorem leaveRemote_store (l : Lalvo) : l.leaveRemote.store = l.store := rfl
@[simp] theorem settle_store (l : Lalvo) : l.settle.store = l.store := rfl
@[simp] theorem newField_store (l : Lalvo) : l.newField.store = l.store := by
  unfold newField
  exact (settle_store _).trans (leaveRemote_store _)
@[simp] theorem checkWords_store (l : Lalvo) (fuses : Bool) : (l.checkWords fuses).store = l.store := rfl
@[simp] theorem phaseTimes_store (l : Lalvo) : l.phaseTimes.store = l.store := rfl
@[simp] theorem result_store (l : Lalvo) (r : BitVec 4) : (l.result r).store = l.store := rfl
@[simp] theorem nvRead_store (l : Lalvo) : l.nvRead.store = l.store := rfl

@[simp] theorem setCharge_store (l : Lalvo) (q : Int) : (l.setCharge q).store = l.store := by
  unfold setCharge
  split <;> rfl

@[simp] theorem addCharge_store (l : Lalvo) (dq : Int) : (l.addCharge dq).store = l.store := l.setCharge_store _
@[simp] theorem anchor_store (l : Lalvo) (q : Int) : (l.anchor q).store = l.store := l.setCharge_store q

@[simp] theorem compare_store (l : Lalvo) : l.compare.store = l.store := by
  unfold compare
  exact ite_store rfl (ite_store rfl (ite_store rfl rfl))

@[simp] theorem judgePg_store (l : Lalvo) (vcs : Nat) : (l.judgePg vcs).store = l.store := by
  unfold judgePg
  exact ite_store rfl (ite_store rfl rfl)

theorem withLink_store (l : Lalvo) (k : LavLink) : ({ l with link := k } : Lalvo).store = l.store := rfl
theorem withVcs_store (l : Lalvo) (vcs : Nat) : ({ l with vcs := vcs } : Lalvo).store = l.store := rfl

@[simp] theorem nextString_store (l : Lalvo) (hello : Bool) (x : LavSample) : (l.nextString hello x).store = l.store := by
  unfold nextString
  dsimp only
  refine (withLink_store _ _).trans ?_
  split
  · exact (l.measure x).compare_store
  · exact (l.measure x).compare_store

@[simp] theorem afterVchg_store (l : Lalvo) : l.afterVchg.store = l.store := by
  unfold afterVchg
  split
  case h_4 => exact ite_store (l.chargeDone.anchor_store _) rfl
  case h_5 => exact ite_store rfl rfl
  all_goals rfl

@[simp] theorem setCharging_store (l : Lalvo) (ichg vchg : Nat) : (l.setCharging ichg vchg).store = l.store := by
  unfold setCharging
  exact ite_store rfl (afterVchg_store _)

@[simp] theorem loadFrom_store (l w : Lalvo) : (l.loadFrom w).store = l.store := setCharging_store _ _ _
@[simp] theorem loadWords_store (l : Lalvo) : l.loadWords.store = l.store := l.loadFrom_store l

@[simp] theorem enterCc_store (l : Lalvo) : l.enterCc.store = l.store := by
  unfold enterCc
  exact ite_store rfl rfl

@[simp] theorem enterPhase_store (l : Lalvo) : l.enterPhase.store = l.store := by
  unfold enterPhase
  split
  · exact l.enterCc_store
  · rfl

@[simp] theorem coldWords_store (l : Lalvo) (fuses : Bool) : (l.coldWords fuses).store = l.store :=
  ((l.checkWords fuses).loadWords_store).trans (l.checkWords_store fuses)

@[simp] theorem coldEnd_store (l : Lalvo) (vrect vcs vsys : Nat) : (l.coldEnd vrect vcs vsys).store = l.store := by
  unfold coldEnd
  simp only [settle_store, retarget_store, startTracker_store]
  exact ite_store ((enterPhase_store _).trans (anchor_store _ _)) rfl

@[simp] theorem judgeOv_store (l : Lalvo) : l.judgeOv.store = l.store := by
  unfold judgeOv
  exact ite_store (ite_store (ite_store rfl (enterPhase_store _)) rfl) (ite_store (ite_store rfl rfl) rfl)

@[simp] theorem judgePhase_store (l : Lalvo) : l.judgePhase.store = l.store := by
  unfold judgePhase
  refine ite_store rfl ?_
  split
  case h_1 => exact ite_store rfl rfl
  case h_2 => exact ite_store l.enterCc_store rfl
  case h_3 => exact ite_store rfl rfl
  case h_4 => exact ite_store l.enterCc_store rfl
  case h_5 => rfl

@[simp] theorem judgeConnect_store (l : Lalvo) : l.judgeConnect.store = l.store := by
  unfold judgeConnect
  split <;> rfl

@[simp] theorem idleCurrent_store (l : Lalvo) (charge : Int) : (l.idleCurrent charge).store = l.store := by
  unfold idleCurrent
  split <;> rfl

@[simp] theorem setNap_store (l : Lalvo) : l.setNap.store = l.store := by
  unfold setNap
  split <;> rfl

@[simp] theorem writeQg_store (l : Lalvo) (w : BitVec 16) : (l.writeQg w).store = l.store := by
  unfold writeQg
  split
  · rfl
  · exact l.anchor_store _

@[simp] theorem nvApply_store (l : Lalvo) : l.nvApply.store = l.store := by
  unfold nvApply
  exact ite_store rfl (ite_store rfl ((settle_store _).trans ((result_store _ _).trans (l.loadFrom_store _))))

@[simp] theorem afterWrite_store (l : Lalvo) (k : Nat) : (l.afterWrite k).store = l.store := by
  unfold afterWrite
  exact ite_store rfl (ite_store (ite_store rfl (l.anchor_store _)) (ite_store rfl rfl))

/-! ### The link (08) -/

@[simp] theorem commit_store (l : Lalvo) (mask : Nat) : (l.commit mask).store = l.store := by
  unfold commit
  dsimp only
  split
  · rfl
  · split
    · exact setCharging_store _ _ _
    · rfl

theorem take_store (l : Lalvo) (op : Nat) (f : Lalvo → Directive → Lalvo) (hf : ∀ l d, (f l d).store = l.store) :
    (l.take op f).store = l.store := by
  unfold take
  split
  · split
    · exact hf _ _
    · rfl
  · rfl

@[simp] theorem authentic_store (l : Lalvo) (d : Directive) (w crc mac : Nat) : (l.authentic d w crc mac).2.store = l.store := by
  unfold authentic
  dsimp only
  split
  · split
    · rfl
    · split <;> rfl
  · split <;> rfl

@[simp] theorem endCopy_store (l : Lalvo) (b : Bool) (t : BitVec 4) (bits : List Bool) : (l.endCopy b t bits).store = l.store := by
  unfold endCopy
  refine ite_store rfl (ite_store rfl (ite_store rfl ?_))
  have hauth := fun w crc mac => l.authentic_store (directiveOf t w) w crc mac
  split
  case h_1 heq => rw [← hauth, heq]; rfl
  case h_2 heq => rw [← hauth, heq]; rfl

@[simp] theorem cell_store (l : Lalvo) (b : Bool) (t : BitVec 4) (x : SbCell) : (l.cell b t x).store = l.store := by
  unfold cell
  split
  · rfl
  · have hbit : ∀ bits t', (if copyDone bits then l.endCopy b t bits
        else { l with link := l.link.setStream t' }).store = l.store :=
      fun _ _ => ite_store (l.endCopy_store _ _ _) rfl
    split
    · rfl
    · rfl
    · exact hbit _ _
    · exact hbit _ _

@[simp] theorem referenceBits_store (l : Lalvo) : l.referenceBits.store = l.store := by
  unfold referenceBits
  split <;> rfl

@[simp] theorem uplinkBit_store (l : Lalvo) (hello : Bool) (xs : List LavSample) :
    (l.uplinkBit hello xs).1.store = l.store := by
  unfold uplinkBit
  split
  · rfl
  · have hnext : (match l.link.report, xs with
        | [], x :: r => (l.nextString hello x, r)
        | _, _ => (l, xs)).1.store = l.store := by
      split
      · exact l.nextString_store hello _
      · rfl
    dsimp only
    split
    · exact hnext
    · exact hnext

@[simp] theorem uplinkBits_store (l : Lalvo) (hello : Bool) (xs : List LavSample) (n : Nat) :
    (l.uplinkBits hello xs n).store = l.store := by
  induction n generalizing l xs with
  | zero => rfl
  | succ n ih => exact (ih _ _).trans (l.uplinkBit_store hello xs)

@[simp] theorem uplink_store (l : Lalvo) (t : BitVec 4) (n : Nat) (xs : List LavSample) : (l.uplink t n xs).store = l.store := by
  unfold uplink
  dsimp only
  split
  · rfl
  · simp

theorem foldl_cell_store (l : Lalvo) (b : Bool) (t : BitVec 4) (xs : List SbCell) :
    (xs.foldl (fun l c => l.cell b t c) l).store = l.store :=
  List.foldlRecOn (motive := fun m : Lalvo => m.store = l.store) xs _ rfl fun _ hm _ _ => (cell_store ..).trans hm

end Lalvo

/-! ## Parts that write to the store -/

/-- Supply lost while a word is being programmed leaves that word alone as it may be; nothing is being programmed after it. -/
theorem Lalvo.die_keepsFuses (l : Lalvo) : l.KeepsFuses l.die := by
  intro hopen
  refine ⟨nvmOpen_of_idle rfl, ?_⟩
  unfold die
  dsimp only
  split
  case isTrue hbusy => exact l.nvm.follows_modWord _ _ ((nvmOpen_iff l).mp hopen hbusy).2.2
  case isFalse => exact .refl _

theorem Lalvo.coldLost_keepsFuses (l : Lalvo) (k : Nat) : l.KeepsFuses (l.coldLost k) :=
  l.die_keepsFuses.store_right rfl

/-- The aged mark, word 12, is the one word that the die marks of itself; no fuse closes it. -/
theorem Lalvo.judgeAge_keepsFuses (l : Lalvo) (r : Nat) : l.KeepsFuses (l.judgeAge r) := by
  unfold judgeAge
  dsimp only
  refine .ite (.of_store rfl) (.ite (.of_store rfl) (.ite ?_ (.of_store rfl)))
  split
  · exact .of_store rfl
  · exact fun hopen => ⟨hopen, l.nvm.follows_write _ _ l.nvm.not_closed_agedMark⟩

theorem Lalvo.checkSample_keepsFuses (l : Lalvo) : l.KeepsFuses l.checkSample := by
  unfold checkSample
  split
  case h_1 => exact .refl l
  case h_2 c _ =>
    by_cases hvoid : (!l.charging || l.chg != .cc) = true
    · rw [if_pos hvoid]
      exact .of_store rfl
    by_cases hfirst : c.n + 1 = 8
    · rw [if_neg hvoid, if_pos hfirst]
      exact .of_store rfl
    by_cases hlast : c.n + 1 = 16
    · rw [if_neg hvoid, if_neg hfirst, if_pos hlast]
      dsimp only
      split
      · exact (judgeAge_keepsFuses _ _).store_left rfl
      · exact .of_store rfl
    · rw [if_neg hvoid, if_neg hfirst, if_neg hlast]
      exact .of_store rfl

theorem Lalvo.leaveField_keepsFuses (l : Lalvo) (vcs : Nat) : l.KeepsFuses (l.leaveField vcs) := by
  unfold leaveField
  exact .ite ((die_keepsFuses _).store_left rfl) (.of_store (ite_store rfl (ite_store rfl rfl)))

theorem Lalvo.superviseMode_keepsFuses (l : Lalvo) (carrier : Bool) (vcs : Nat) :
    l.KeepsFuses (l.superviseMode carrier vcs) := by
  have hidle : (if carrier then (l.judgePg vcs).wake
      else if vcs < l.set.vhold then { l.toHold with supArm := false, nap := false }
      else l.judgePg vcs).store = l.store :=
    ite_store (l.judgePg_store vcs) (ite_store rfl (l.judgePg_store vcs))
  unfold superviseMode
  split
  case h_1 => exact .ite (.refl l) (l.leaveField_keepsFuses vcs)
  case h_2 => exact .of_store hidle
  case h_3 => exact .of_store hidle
  case h_4 => exact .of_store (ite_store rfl rfl)
  case h_5 => exact .refl l
  case h_6 => exact .refl l

theorem Lalvo.open_of_not_refused {l : Lalvo} (h : l.writeRefused = none) :
    l.nvm.issued = false ∧ l.nvAddr ≠ 63 ∧ ¬ l.nvm.Closed l.nvAddr.toNat := by
  unfold writeRefused at h
  dsimp only at h
  split at h
  case isTrue => cases h
  case isFalse hopen =>
    simp only [Bool.or_eq_true, Bool.and_eq_true, decide_eq_true_eq, not_or] at hopen
    obtain ⟨⟨⟨⟨h0, hkey⟩, hcrc⟩, hlimits⟩, hissued⟩ := hopen
    refine ⟨eq_false_of_ne_true hissued, fun e => hcrc (congrArg BitVec.toNat e), ?_⟩
    rintro (hk | hk | ⟨hl, hk⟩ | ⟨hi, -⟩)
    · exact h0 hk
    · exact hkey hk
    · exact hlimits ⟨hk, hl⟩
    · exact hissued hi

/-- A write that its table does not refuse goes to a word that no fuse has closed (10 R363, R365). -/
theorem Lalvo.nvWrite_keepsFuses (l : Lalvo) : l.KeepsFuses l.nvWrite := by
  unfold nvWrite
  split
  case h_1 => exact .of_store rfl
  case h_2 hnone => exact fun _ => ⟨(nvmOpen_iff _).mpr fun _ => open_of_not_refused hnone, .refl _⟩

theorem Lalvo.blowLimits_keepsFuses (l : Lalvo) (hidle : l.nvBusy = false) : l.KeepsFuses l.blowLimits := by
  unfold blowLimits
  refine .ite (.of_store rfl) (.ite (.of_store rfl) ?_)
  exact fun _ => ⟨nvmOpen_of_idle hidle, ⟨fun _ => rfl, id, fun _ _ => rfl⟩⟩

theorem Lalvo.blowIssued_keepsFuses (l : Lalvo) (hidle : l.nvBusy = false) : l.KeepsFuses l.blowIssued := by
  unfold blowIssued
  refine .ite (.of_store rfl) (.ite (.of_store rfl) (.ite (.of_store rfl) ?_))
  exact fun _ => ⟨nvmOpen_of_idle hidle, ⟨id, fun _ => rfl, fun _ _ => rfl⟩⟩

theorem Lalvo.nvCommand_keepsFuses (l : Lalvo) (f : Lalvo → Lalvo) (hf : l.nvBusy = false → l.KeepsFuses (f l)) :
    l.KeepsFuses (l.nvCommand f) := by
  unfold nvCommand
  split
  case isTrue => exact .refl l
  case isFalse hidle => exact hf (eq_false_of_ne_true hidle)

theorem Lalvo.command_keepsFuses (l : Lalvo) (cmd : Nat) : l.KeepsFuses (l.command cmd) := by
  refine l.nvCommand_keepsFuses _ fun hidle => ?_
  split
  · exact .of_store l.nvRead_store
  · exact l.nvWrite_keepsFuses
  · exact .of_store l.nvApply_store
  · exact l.blowLimits_keepsFuses hidle
  · exact l.blowIssued_keepsFuses hidle
  · exact .refl l

/-- The address of the word being programmed stands until it is done. -/
theorem Lalvo.setNvAddr_keepsFuses (l : Lalvo) (a : BitVec 6) (hidle : l.nvBusy = false) : l.KeepsFuses { l with nvAddr := a } :=
  fun _ => ⟨nvmOpen_of_idle hidle, .refl _⟩

theorem Lalvo.i2cWrite_keepsFuses (l : Lalvo) (a : Nat) (w : BitVec 16) : l.KeepsFuses (l.i2cWrite a w) := by
  unfold i2cWrite
  split
  · exact .of_store (l.writeQg_store w)
  · split <;> exact .of_store rfl
  · split
    · exact .of_store l.setNap_store
    · exact .refl l
  · split
    · exact .refl l
    · next hidle => exact l.setNvAddr_keepsFuses _ (eq_false_of_ne_true hidle)
  · split <;> exact .of_store rfl
  · exact l.command_keepsFuses _
  · exact .refl l

/-! ## Commands of the pass die -/

theorem outcome_next_inj {s t : State} (h : (.next s : Host.Outcome State Fault Refusal) = .next t) : t = s := by
  injection h with h
  exact h.symm

/-- A command on the pass die keeps its fuses where its effect does. -/
theorem keepsFuses_of_onLav {s t : State} {l : Lalvo}
    (h : (.next (withLav s l) : Host.Outcome State Fault Refusal) = .next t) (hl : s.lav.KeepsFuses l) :
    s.lav.KeepsFuses t.lav := by
  rw [outcome_next_inj h]
  exact hl

theorem keepsFuses_of_onField {s t : State} {l : Lalvo}
    (h : (.next (withLav s (if s.lav.mode = .active then l else s.lav)) : Host.Outcome State Fault Refusal) = .next t)
    (hl : s.lav.KeepsFuses l) : s.lav.KeepsFuses t.lav :=
  keepsFuses_of_onLav h (.ite hl (.refl _))

theorem keepsFuses_of_onI2c {s t : State} {l : Lalvo}
    (h : (.next (withLav s (if s.lav.loadSw then l else s.lav)) : Host.Outcome State Fault Refusal) = .next t)
    (hl : s.lav.KeepsFuses l) : s.lav.KeepsFuses t.lav :=
  keepsFuses_of_onLav h (.ite hl (.refl _))

/-- A directive keeps the fuses where what it does to the die leaves the store alone. -/
theorem keepsFuses_of_take {s t : State} {op : Nat} {f : Lalvo → Directive → Lalvo}
    (h : (.next (withLav s (s.lav.take op f)) : Host.Outcome State Fault Refusal) = .next t)
    (hf : ∀ l d, (f l d).store = l.store) : s.lav.KeepsFuses t.lav :=
  keepsFuses_of_onLav h (.of_store (s.lav.take_store op f hf))

section
variable {s t : State}

theorem execFragment_keepsFuses {cells : List SbCell} {xs : Vector LavSample 2} (h : execFragment cells xs s = .next t) :
    s.lav.KeepsFuses t.lav := by
  refine keepsFuses_of_onLav h (.of_store ?_)
  dsimp only
  split
  case h_1 start copyB tag data _ _ =>
    exact (Lalvo.foldl_cell_store _ copyB tag data).trans (s.lav.uplink_store tag data.length xs.toList)
  case h_2 => rfl

theorem execColdStart_keepsFuses {r : ColdRun} (h : execColdStart r s = .next t) : s.lav.KeepsFuses t.lav := by
  refine keepsFuses_of_onLav h ?_
  dsimp only
  split
  case isFalse => exact .refl _
  case isTrue =>
    split
    · exact s.lav.coldLost_keepsFuses _
    · have hwords : (if s.lav.coldFrom r.away ≤ 2 then s.lav.coldWords r.fuses else s.lav).store = s.lav.store :=
        Lalvo.ite_store (s.lav.coldWords_store r.fuses) rfl
      exact .of_store (Lalvo.ite_store hwords ((Lalvo.coldEnd_store ..).trans hwords))

/-- A 250 us sample takes the die down, or judges an impedance check between parts that leave the store alone. -/
theorem execCellSample_keepsFuses {x : LavSample} (h : execCellSample x s = .next t) : s.lav.KeepsFuses t.lav := by
  have hjudged : ∀ l : Lalvo, l.KeepsFuses
      ((l.checkSample.phaseTimes.judgeOv.judgePhase.judgeConnect.judgePg x.vcs).retarget).settle :=
    fun l => l.checkSample_keepsFuses.store_right (by simp)
  refine keepsFuses_of_onField h ?_
  dsimp only
  split
  · exact (Lalvo.die_keepsFuses _).store_left (Lalvo.addCharge_store _ x.charge)
  · exact (hjudged _).store_left (Lalvo.addCharge_store _ x.charge)

theorem execUnderVoltageCut_keepsFuses {vcs : Nat} (h : execUnderVoltageCut vcs s = .next t) : s.lav.KeepsFuses t.lav := by
  refine keepsFuses_of_onLav h ?_
  dsimp only
  split
  case isTrue => exact .refl _
  case isFalse =>
    split
    case h_1 => exact .of_store (Lalvo.ite_store rfl rfl)
    case h_4 => exact s.lav.die_keepsFuses
    all_goals exact .refl _

theorem execSupervisionSample_keepsFuses {edges vcs : Nat} {charge : Int} (h : execSupervisionSample edges vcs charge s = .next t) :
    s.lav.KeepsFuses t.lav := by
  have hcurrent : ∀ (mode : LavMode) (l : Lalvo),
      ((if mode = .supervise then l.addCharge charge else l).idleCurrent charge).store = l.store :=
    fun _ l => (Lalvo.idleCurrent_store _ charge).trans (Lalvo.ite_store (l.addCharge_store charge) rfl)
  refine keepsFuses_of_onLav h ?_
  dsimp only
  split
  case isTrue => exact .refl _
  case isFalse =>
    refine ((Lalvo.superviseMode_keepsFuses _ _ vcs).store_left ?_).store_right (Lalvo.ite_store (Lalvo.newField_store _) rfl)
    exact Lalvo.ite_store (hcurrent _ _) ((Lalvo.withVcs_store _ vcs).trans (hcurrent _ _))

/-- A word programmed is the open one that was addressed, verified or not (10 R363). -/
theorem execNvmWriteComplete_keepsFuses {verified : Bool} (h : execNvmWriteComplete verified s = .next t) :
    s.lav.KeepsFuses t.lav := by
  refine keepsFuses_of_onLav h ?_
  dsimp only
  generalize s.lav = l
  split
  case isFalse => exact .refl l
  case isTrue hbusy =>
    have hclosed : NvmOpen l → ¬ l.nvm.Closed l.nvAddr.toNat := fun hopen => ((nvmOpen_iff l).mp hopen hbusy).2.2
    split
    · refine Lalvo.KeepsFuses.store_right ?_ (Lalvo.afterWrite_store _ _)
      exact fun hopen => ⟨nvmOpen_of_idle rfl, l.nvm.follows_write _ _ (hclosed hopen)⟩
    · exact fun hopen => ⟨nvmOpen_of_idle rfl, l.nvm.follows_modWord _ _ (hclosed hopen)⟩

end

/-! ## Commands that leave the pass die alone -/

theorem Lalvo.KeepsFuses.of_lav {s t : State} (h : t.lav = s.lav) : s.lav.KeepsFuses t.lav := .of_store (congrArg _ h)

theorem State.lav_of_onVx {s t : State} {v : Vexone}
    (h : (.next (withVx s v) : Host.Outcome State Fault Refusal) = .next t) : t.lav = s.lav := by
  rw [outcome_next_inj h, withVx_lav]

theorem State.lav_of_onPri {s t : State} {p : Primary}
    (h : (.next { s with pri := p } : Host.Outcome State Fault Refusal) = .next t) : t.lav = s.lav := by
  rw [outcome_next_inj h]

@[simp] theorem State.applyRevokes_lav (s : State) : s.applyRevokes.lav = s.lav :=
  List.foldlRecOn (motive := fun t : State => t.lav = s.lav) _ _ rfl fun _ ht _ _ => ht

@[simp] theorem State.latchAll_lav (s : State) : s.latchAll.lav = s.lav := by
  unfold State.latchAll
  dsimp only
  exact State.applyRevokes_lav _

@[simp] theorem State.tickWork_lav (s : State) : s.tickWork.lav = s.lav := by
  unfold State.tickWork
  dsimp only
  exact State.latchAll_lav _

@[simp] theorem State.spiRead_lav (s : State) (more : Bool) (k a n : Nat) : (s.spiRead more k a n).lav = s.lav := by
  induction k generalizing s a n with
  | zero => rfl
  | succ k ih =>
    unfold State.spiRead
    dsimp only
    split
    · rfl
    · split
      · rfl
      · exact ih ..

@[simp] theorem State.readAt_lav (s : State) (e : Edge) (m : Master) (a : Nat) : (s.readAt e m a).lav = s.lav := by
  unfold State.readAt
  split
  · rfl
  · split <;> rfl

section
variable {s t : State}

theorem execTick_lav (h : execTick s = .next t) : t.lav = s.lav := by
  unfold execTick at h
  split at h
  · rw [outcome_next_inj h]
    exact State.tickWork_lav _
  · split at h
    · split at h
      · rw [outcome_next_inj h]
        exact State.tickWork_lav _
      · rw [outcome_next_inj h]
    · rw [outcome_next_inj h]

theorem execPllLock_lav (h : execPllLock s = .next t) : t.lav = s.lav := by
  unfold execPllLock at h
  split at h
  · rw [outcome_next_inj h]
    exact State.tickWork_lav _
  · rw [outcome_next_inj h]

theorem execKeyFuseReadback_lav {hash : Vector Byte 32} (h : execKeyFuseReadback hash s = .next t) : t.lav = s.lav := by
  unfold execKeyFuseReadback at h
  dsimp only at h
  split at h
  · split at h
    · split at h
      · rw [outcome_next_inj h]
      · rw [outcome_next_inj h]
    · rw [outcome_next_inj h]
  · rw [outcome_next_inj h]

theorem execRcFieldRead_lav {e : Edge} {m : Master} {a : BitVec 16} (h : execRcFieldRead e m a s = .next t) :
    t.lav = s.lav := by
  rw [outcome_next_inj h]
  exact s.readAt_lav ..

theorem execNowOfsRead_lav {e : Edge} {m : Master} (h : execNowOfsRead e m s = .next t) : t.lav = s.lav := by
  rw [outcome_next_inj h]
  exact s.readAt_lav ..

theorem execSpiFrame_lav {e : Edge} {mode3 : Bool} {bytes : List Byte} {spare : Fin 8}
    (h : execSpiFrame e mode3 bytes spare s = .next t) : t.lav = s.lav := by
  rw [outcome_next_inj h]
  dsimp only
  split
  · rfl
  · split
    · split <;> rfl
    · split
      · exact State.spiRead_lav ..
      · rfl
    · rfl

theorem execUnsupportedRequest_lav {e : Edge} {p : Port} {k : BadRequest} (h : execUnsupportedRequest e p k s = .next t) :
    t.lav = s.lav := by
  unfold execUnsupportedRequest at h
  cases k
  all_goals exact State.lav_of_onVx h

end

/-! ## Every command -/

/-- Whatever the command, the pass keeps its fuses: the pass die's own commands are taken one by one, and every other command
leaves that die alone. -/
theorem exec_keepsFuses {c : Instr} {s t : State} (h : exec c s = .next t) : s.lav.KeepsFuses t.lav := by
  cases c with
  | fragment => exact execFragment_keepsFuses h
  | copyTimeout => exact keepsFuses_of_onLav h (.of_store (Lalvo.ite_store rfl rfl))
  | directiveJudgeTimeout =>
    refine keepsFuses_of_onLav h (.of_store ?_)
    dsimp only
    split
    · exact Lalvo.ite_store rfl rfl
    · rfl
  | assign => exact keepsFuses_of_take h fun _ _ => rfl
  | opSet => exact keepsFuses_of_take h fun _ _ => rfl
  | vtgtSet => exact keepsFuses_of_take h fun _ _ => rfl
  | ichgStage => exact keepsFuses_of_take h fun _ _ => rfl
  | vchgStage => exact keepsFuses_of_take h fun _ _ => rfl
  | pgStage => exact keepsFuses_of_take h fun _ _ => rfl
  | commit => exact keepsFuses_of_take h fun l _ => l.commit_store _
  | policy => exact keepsFuses_of_take h fun _ _ => Lalvo.ite_store rfl rfl
  | keep => exact keepsFuses_of_take h fun _ _ => rfl
  | directiveRelease => exact keepsFuses_of_take h fun _ _ => rfl
  | beacon => exact keepsFuses_of_take h fun _ _ => Lalvo.ite_store rfl rfl
  | remoteModeTimeout => exact keepsFuses_of_onLav h (.of_store (Lalvo.ite_store rfl rfl))
  | coldStart => exact execColdStart_keepsFuses h
  | cellSample => exact execCellSample_keepsFuses h
  | temperatureSample => exact keepsFuses_of_onLav h (.of_store (Lalvo.ite_store rfl rfl))
  | trackerStep => exact keepsFuses_of_onField h (.of_store (Lalvo.ite_store rfl rfl))
  | trickleTimeout => exact keepsFuses_of_onField h (.of_store (Lalvo.ite_store rfl rfl))
  | prechargeTimeout => exact keepsFuses_of_onField h (.of_store (Lalvo.ite_store rfl rfl))
  | cvTermination =>
    exact keepsFuses_of_onField h (.of_store (Lalvo.ite_store (s.lav.chargeDone.anchor_store _) rfl))
  | restAnchor => exact keepsFuses_of_onLav h (.of_store (Lalvo.ite_store (Lalvo.anchor_store _ _) rfl))
  | gaugeCompare => exact keepsFuses_of_onLav h (.of_store (Lalvo.ite_store s.lav.compare_store rfl))
  | gaugeSubtraction =>
    refine keepsFuses_of_onLav h (.of_store ?_)
    dsimp only
    split
    · exact s.lav.addCharge_store _
    · exact s.lav.addCharge_store _
    · rfl
  | chargeOverCurrent => exact keepsFuses_of_onField h (.of_store (Lalvo.ite_store rfl rfl))
  | chargeOcRestart => exact keepsFuses_of_onLav h (.of_store (Lalvo.ite_store rfl rfl))
  | dischargeOverCurrent => exact keepsFuses_of_onLav h (.of_store (Lalvo.ite_store rfl rfl))
  | loadSwitchRetry => exact keepsFuses_of_onLav h (.of_store (Lalvo.ite_store rfl rfl))
  | loadShort => exact keepsFuses_of_onLav h (.of_store (Lalvo.ite_store rfl rfl))
  | underVoltageCut => exact execUnderVoltageCut_keepsFuses h
  | supervisionSample => exact execSupervisionSample_keepsFuses h
  | wake =>
    refine keepsFuses_of_onLav h (.of_store ?_)
    dsimp only
    split
    case h_4 => rfl
    all_goals exact Lalvo.ite_store rfl rfl
  | supTimeExpiry => exact keepsFuses_of_onLav h (.of_store (Lalvo.ite_store rfl rfl))
  | txmEdge => exact keepsFuses_of_onLav h (.of_store rfl)
  | fieldEnvelopeChange => exact keepsFuses_of_onLav h (.of_store rfl)
  | vloadRegulationChange => exact keepsFuses_of_onLav h (.of_store rfl)
  | nap => exact keepsFuses_of_onI2c h (.of_store s.lav.setNap_store)
  | lvQgLoWrite w => exact keepsFuses_of_onI2c h (.of_store (s.lav.writeQg_store w))
  | i2cRegisterWrite => exact keepsFuses_of_onI2c h (s.lav.i2cWrite_keepsFuses _ _)
  | nvRead => exact keepsFuses_of_onI2c h (s.lav.nvCommand_keepsFuses _ fun _ => .of_store s.lav.nvRead_store)
  | nvWrite => exact keepsFuses_of_onI2c h (s.lav.nvCommand_keepsFuses _ fun _ => s.lav.nvWrite_keepsFuses)
  | nvApply => exact keepsFuses_of_onI2c h (s.lav.nvCommand_keepsFuses _ fun _ => .of_store s.lav.nvApply_store)
  | blowLimits => exact keepsFuses_of_onI2c h (s.lav.nvCommand_keepsFuses _ s.lav.blowLimits_keepsFuses)
  | blowIssued => exact keepsFuses_of_onI2c h (s.lav.nvCommand_keepsFuses _ s.lav.blowIssued_keepsFuses)
  | nvmWriteComplete => exact execNvmWriteComplete_keepsFuses h
  | tick => exact .of_lav (execTick_lav h)
  | pllLock => exact .of_lav (execPllLock_lav h)
  | keyFuseReadback => exact .of_lav (execKeyFuseReadback_lav h)
  | rcFieldRead => exact .of_lav (execRcFieldRead_lav h)
  | nowOfsRead => exact .of_lav (execNowOfsRead_lav h)
  | spiFrame => exact .of_lav (execSpiFrame_lav h)
  | unsupportedRequest => exact .of_lav (execUnsupportedRequest_lav h)
  | sCmd | secondaryDark | mainsLoss | mainsBrownOut | mainsPresent | mainsOverVoltage | primaryPowerOn =>
    exact .of_lav (State.lav_of_onPri h)
  | _ => exact .of_lav (State.lav_of_onVx h)

theorem step_keepsFuses {s t : State} (h : step s = .next t) : s.lav.KeepsFuses t.lav := by
  cases hq : s.pending with
  | nil =>
    rw [step_nil s hq] at h
    exact .of_lav (by rw [outcome_next_inj h])
  | cons c q =>
    rw [step_cons s c q hq] at h
    exact exec_keepsFuses (s := { s with pending := q }) h

/-! ## The commands that blow a fuse -/

namespace Lalvo

theorem blowLimits_of_wrongWord {l : Lalvo} (hw : l.nvData ≠ 0x4C4D) : l.blowLimits = l.result 4 := if_pos hw

theorem blowLimits_of_badRelations {l : Lalvo} (hw : l.nvData = 0x4C4D) (hrel : l.asWritten.relations = false) :
    l.blowLimits = l.result 6 := by
  simp [blowLimits, hw, hrel]

theorem blowLimits_blows {l : Lalvo} (hw : l.nvData = 0x4C4D) (hrel : l.asWritten.relations = true) :
    l.blowLimits = ({ l with nvm := { l.nvm with limits := true } } : Lalvo).result 0 := by
  simp [blowLimits, hw, hrel]

theorem blowIssued_of_wrongWord {l : Lalvo} (hw : l.nvData ≠ 0x4953) : l.blowIssued = l.result 4 := if_pos hw

theorem blowIssued_of_limitsIntact {l : Lalvo} (hw : l.nvData = 0x4953) (hlim : l.nvm.limits = false) :
    l.blowIssued = l.result 5 := by
  simp [blowIssued, hw, hlim]

theorem blowIssued_of_badRelations {l : Lalvo} (hw : l.nvData = 0x4953) (hlim : l.nvm.limits = true)
    (hrel : l.asWritten.relations = false) : l.blowIssued = l.result 6 := by
  simp [blowIssued, hw, hlim, hrel]

theorem blowIssued_blows {l : Lalvo} (hw : l.nvData = 0x4953) (hlim : l.nvm.limits = true)
    (hrel : l.asWritten.relations = true) :
    l.blowIssued = ({ l with nvm := { l.nvm with issued := true } } : Lalvo).result 0 := by
  simp [blowIssued, hw, hlim, hrel]

end Lalvo

/-- With VLOAD on and nothing being programmed, a command that blows a fuse acts. -/
theorem exec_blowLimits {s : State} (hload : s.lav.loadSw = true) (hidle : s.lav.nvBusy = false) :
    exec .blowLimits s = .next (withLav s s.lav.blowLimits) := by
  have hexec : exec .blowLimits s = execBlowLimits s := rfl
  simp [hexec, execBlowLimits, onI2c, Lalvo.nvCommand, hload, hidle]

theorem exec_blowIssued {s : State} (hload : s.lav.loadSw = true) (hidle : s.lav.nvBusy = false) :
    exec .blowIssued s = .next (withLav s s.lav.blowIssued) := by
  have hexec : exec .blowIssued s = execBlowIssued s := rfl
  simp [hexec, execBlowIssued, onI2c, Lalvo.nvCommand, hload, hidle]

/-- Settles O40: the commands that blow case by case, and over a step that the pass keeps its fuses. -/
theorem passFusesNeverGoBack : Obligations.PassFusesNeverGoBack := by
  refine ⟨fun s hload hidle => ?blow, fun s t hopen hstep => ?step⟩
  case blow =>
    have hacts (l t : Lalvo) (h : l = t) :
        (.next (withLav s l) : Host.Outcome State Fault Refusal) = .next (withLav s t) := by rw [h]
    rw [exec_blowLimits hload hidle, exec_blowIssued hload hidle]
    exact ⟨fun hw => hacts _ _ (Lalvo.blowLimits_of_wrongWord hw),
      fun hw hrel => hacts _ _ (Lalvo.blowLimits_of_badRelations hw hrel),
      fun hw hrel => hacts _ _ (Lalvo.blowLimits_blows hw hrel),
      fun hw => hacts _ _ (Lalvo.blowIssued_of_wrongWord hw),
      fun hw hlim => hacts _ _ (Lalvo.blowIssued_of_limitsIntact hw hlim),
      fun hw hlim hrel => hacts _ _ (Lalvo.blowIssued_of_badRelations hw hlim hrel),
      fun hw hlim hrel => hacts _ _ (Lalvo.blowIssued_blows hw hlim hrel)⟩
  case step =>
    obtain ⟨hopen', hfollows⟩ := step_keepsFuses hstep hopen
    exact ⟨hopen', hfollows.limits, hfollows.issued, hfollows.words⟩

end Sys2Proof.Machine
end

section
/-! SUPPORT. FAULT_N and its enables (16 R555 to R557): what a write of FN_EN does by the rights of its master, and which latched codes
drive the pin. -/

namespace Sys2Proof.Machine

open Sys2Proof Sys2Proof.Safety

/-! ## A write of FN_EN -/

/-- A write that enables every byte replaces the whole word. -/
@[simp] theorem mergeBytes_allEnabled (old new : Word) : mergeBytes old new 15#4 = new := by
  have hmask : BitVec.ofNat 32 ((onesOf 15#4).foldl (fun a i => a + 0xFF <<< (8 * i)) 0) = BitVec.allOnes 32 := by decide
  simp only [mergeBytes, hmask, BitVec.not_allOnes, BitVec.and_zero, BitVec.and_allOnes, BitVec.zero_or]

theorem Vexone.writeReg_fnEn_of_isOwner {v : Vexone} {m : Master} (w : Word) (h : v.isOwner m = true) :
    v.writeReg m 0x0048 0xF w = { v with fnEn := (w &&& 0x1FFE).extractLsb' 0 13 } := by
  simp [Vexone.writeReg, h]

theorem Vexone.writeReg_fnEn_of_not_isOwner {v : Vexone} {m : Master} (w : Word) (h : v.isOwner m = false) :
    v.writeReg m 0x0048 0xF w = v.ignoreWrites 1 := by
  simp [Vexone.writeReg, Vexone.deny, h]

theorem State.readReg_fnEn (s : State) (m : Master) : s.readReg m 0x0048 = s.vx.fnEn.zeroExtend 32 := rfl

/-- The implemented bits of FN_EN, 1 to 12, lie within the 13 that are held: nothing that a read shows is lost. -/
theorem fnEnMask_zeroExtend (w : Word) : ((w &&& 0x1FFE).extractLsb' 0 13).zeroExtend 32 = w &&& 0x1FFE := by
  have hle : w.toNat &&& 0x1FFE ≤ 0x1FFE := Nat.and_le_right
  have hcut : (w.toNat &&& 0x1FFE) % 2 ^ 13 % 2 ^ 32 = w.toNat &&& 0x1FFE := by omega
  exact BitVec.eq_of_toNat_eq (by simpa using hcut)

theorem fnEnMask_getLsbD (w : Word) {n : Nat} (hlo : 1 ≤ n) (hhi : n ≤ 12) :
    ((w &&& 0x1FFE).extractLsb' 0 13).getLsbD n = w.getLsbD n := by
  have hbits : ∀ k : Fin 13, 1 ≤ k.val → (0x1FFE : Word).getLsbD k.val = true := by decide
  have hlt : n < 13 := Nat.lt_succ_of_le hhi
  simp only [BitVec.getLsbD_extractLsb', BitVec.getLsbD_and, Nat.zero_add, hlt, hbits ⟨n, hlt⟩ hlo, decide_true,
    Bool.true_and, Bool.and_true]

/-- On a running die a write acts on the state that its access finds. -/
theorem exec_registerWrite {s : State} (e : Edge) (m : Master) (a : BitVec 16) (be : BitVec 4) (w : Word) (h : s.vx.alive = true) :
    exec (.registerWrite e m a be w) s = .next (withVx s ((s.vx.accessed e.val m).writeReg m (regAddr a) be w)) := by
  have hexec : exec (.registerWrite e m a be w) s = execRegisterWrite e m a be w s := rfl
  rw [hexec, execRegisterWrite, onVx_next, Vexone.access_alive _ _ _ _ h]

/-! ## The pin -/

theorem Vexone.faultN_iff (v : Vexone) : v.faultN = true ↔ ∃ f ∈ v.faults, f.mask ≠ 0 ∧
    (faultClass f.code = some .s ∨ (faultClass f.code = some .w ∧ v.fnEn.getLsbD (f.code / 256) = true)) := by
  simp only [Vexone.faultN, List.any_eq_true, Bool.and_eq_true, bne_iff_ne]
  refine exists_congr fun f => and_congr_right fun _ => and_congr_right fun _ => ?_
  cases faultClass f.code with
  | none => simp
  | some c => cases c <;> simp

/-- Settles O52: reset, the owner's write, any other master's, and the pin in turn. -/
theorem faultNFollowsItsEnables : Obligations.FaultNFollowsItsEnables := by
  refine ⟨rfl, fun s e m w halive => ?write, Vexone.faultN_iff⟩
  rw [exec_registerWrite e m 0x0048 0xF w halive, show regAddr 0x0048 = 0x0048 from rfl]
  refine ⟨fun hown => ?owner, fun hother => ?other⟩
  case owner =>
    refine ⟨_, rfl, withVx_only _ _, ?_⟩
    rw [State.readReg_fnEn, withVx_vx, Vexone.writeReg_fnEn_of_isOwner w hown]
    exact ⟨fnEnMask_zeroExtend w, fun _ => fnEnMask_getLsbD w, rfl, rfl⟩
  case other => rw [Vexone.writeReg_fnEn_of_not_isOwner w hother]

end Sys2Proof.Machine
end
